-- ==== Sys2Proof/Word.lean ====
section
/-! DEFINITION. The word types of the block and the small fixed-size collections its registers come in
(00_scope.md R9, 10_state.md R21, R23, R31). -/

namespace Sys2Proof

/-- A byte of a frame, a buffer or an 8-bit register (00_scope.md R9). -/
abbrev Byte := BitVec 8

/-- A 16-bit value: an address, or an `int16` held as its two's-complement pattern (10_state.md R21). -/
abbrev Half := BitVec 16

/-- Six like things: the register files `WV`, `RV` and `STG`, and the fields DEC.A extracts. -/
structure Six (α : Type) where
  v0 : α
  v1 : α
  v2 : α
  v3 : α
  v4 : α
  v5 : α
deriving DecidableEq, Repr, Inhabited

/-- Six copies of one value. -/
def Six.all {α : Type} (x : α) : Six α := ⟨x, x, x, x, x, x⟩

/-- The six in register order. -/
def Six.toList {α : Type} (r : Six α) : List α := [r.v0, r.v1, r.v2, r.v3, r.v4, r.v5]

/-- The register with index `k`, for `k < 6`; there is no seventh register, so every larger index
reads the last one. -/
def Six.get {α : Type} (r : Six α) : Nat → α
  | 0 => r.v0
  | 1 => r.v1
  | 2 => r.v2
  | 3 => r.v3
  | 4 => r.v4
  | _ => r.v5

/-- The six with the register of index `k` replaced, for `k < 6`; a larger index replaces nothing. -/
def Six.set {α : Type} (r : Six α) (k : Nat) (x : α) : Six α :=
  ⟨if k = 0 then x else r.v0, if k = 1 then x else r.v1, if k = 2 then x else r.v2,
   if k = 3 then x else r.v3, if k = 4 then x else r.v4, if k = 5 then x else r.v5⟩

/-- Four like things: the fields DEC.B extracts (43_frame_decode.md R175). -/
structure Four (α : Type) where
  f0 : α
  f1 : α
  f2 : α
  f3 : α
deriving DecidableEq, Repr, Inhabited

/-- The four in order. -/
def Four.toList {α : Type} (f : Four α) : List α := [f.f0, f.f1, f.f2, f.f3]

end Sys2Proof
end

