-- ==== Sys2Proof/Config.lean ====
section
/-! DEFINITION. What an instance fixes (00_scope.md R7, R8), the register-name table (41_regmap.md R140, R141) and the
free values: the transport's unscripted answers, the value RV is left with by RESET and a window byte without a value. -/

namespace Sys2Proof

/-- The two sibling wire protocols (00_scope.md R2). -/
inductive Variant
  /-- RS-485 register protocol, header EB 90. -/
  | A
  /-- CAN-over-serial protocol, delimiters AA AA and 55 55. -/
  | B
deriving DecidableEq, Repr, Inhabited

/-- The two waiting disciplines (46_transport_wait.md R266 to R268). -/
inductive WaitMode
  | poll
  | deadline
deriving DecidableEq, Repr, Inhabited

/-- `RETRY_LIMIT`: a natural number or `Unbounded` (00_scope.md R7). -/
inductive RetryLimit
  | unbounded
  | bounded (n : Nat)
deriving DecidableEq, Repr, Inhabited

/-- What a Variant B read request carries in its payload window (30_encoding.md R98). -/
inductive BReadForm
  | empty
  | countByte
deriving DecidableEq, Repr, Inhabited

/-- The class that selects the sanitiser of returned values (41_regmap.md R141, 43_frame_decode.md R186). -/
inductive RegClass
  | magnitude
  | signed
deriving DecidableEq, Repr, Inhabited

/-- One entry of `REGMAP` (41_regmap.md R141). The name is a code; eight bits are the model's choice
(DESIGN CHOICE, log 18, safe: a wider code only adds unknown names). -/
structure RegEntry where
  name : Byte
  base : Half
  cls : RegClass
deriving DecidableEq, Repr, Inhabited

/-- The configuration of one instance (00_scope.md R7). `timeout` and `tGap` are durations without a unit
and no value depends on them (46_transport_wait.md R270, R271; log 21). R7 asks for an `rxCap` of at least 20 and
a `regmap` with at least the five listed entries; the type admits every number and every list, and the rules are
applied to them as they are (DESIGN CHOICE, log 30, safe). -/
structure Config where
  variant : Variant
  waitMode : WaitMode
  retryLimit : RetryLimit
  timeout : Nat
  tGap : Nat
  rxVerify : Bool
  rxUnstuff : Bool
  aReadLen : Byte
  bReadForm : BReadForm
  rxCap : Nat
  regmap : List RegEntry
deriving DecidableEq, Repr, Inhabited

/-- The five entries RAC fixes, with their codes and default classes (20_memory.md R75, 41_regmap.md R140,
R141). -/
def Config.listedRegisters : List RegEntry :=
  [⟨0, 1486, .magnitude⟩, ⟨1, 1498, .magnitude⟩, ⟨2, 1522, .magnitude⟩, ⟨3, 1546, .magnitude⟩,
   ⟨4, 1582, .signed⟩]

/-- The defaults of 00_scope.md R7. VARIANT, WAIT_MODE, TIMEOUT and T_GAP have none: the values here are a
DESIGN CHOICE (log 1, unsafe for a claim that rests on them; every statement holds for every Config). -/
def Config.default : Config where
  variant := .A
  waitMode := .deadline
  retryLimit := .unbounded
  timeout := 0
  tGap := 0
  rxVerify := false
  rxUnstuff := false
  aReadLen := 0x03
  bReadForm := .empty
  rxCap := 64
  regmap := listedRegisters

/-- `NAME` after reset: the first name code of the instance (10_state.md R35); 0 for an instance without
entries, which 00_scope.md R7 excludes. -/
def Config.firstName (c : Config) : Byte :=
  match c.regmap with
  | [] => 0
  | e :: _ => e.name

/-- The transport's answer to one `send` (46_transport_wait.md R260). -/
inductive SendAnswer
  | ok
  | failure
deriving DecidableEq, Repr, Inhabited

/-- The transport's answer to one `receive` (46_transport_wait.md R261). -/
inductive RecvAnswer
  | bytes (b : List Byte)
  | timeout
  | failure
deriving DecidableEq, Repr, Inhabited

/-- FREE VALUE (log 3): the transport's answer to a `send` when no answer is scripted. -/
opaque Config.freeSend : Nat → SendAnswer

/-- FREE VALUE (log 3): the transport's answer to a `receive` when no answer is scripted. -/
opaque Config.freeRecv : Nat → RecvAnswer

/-- FREE VALUE (log 13): what RV holds after a RESET command; 10_state.md R35 leaves it unspecified. -/
opaque Config.freeRv : Nat → Six (BitVec 17)

/-- FREE VALUE (log 31): the window byte of a Variant B read request for a count whose double is no byte;
42_frame_encode.md R156 gives it for 4 and 2. -/
opaque Config.freeCountByte : Byte → Byte

end Sys2Proof
end

