-- ==== Sys2Proof/Machine/Bytes.lean ====
section
/-! DEFINITION. The helper functions of 00_scope.md R11 on bytes and byte sequences, the checksum function
(40_checksum.md R130) and the reserved values (44_byte_stuffer.md R200). -/

namespace Sys2Proof

/-- `lo8` (00_scope.md R11). -/
def lo8 (x : Half) : Byte := BitVec.ofNat 8 (x.toNat % 256)

/-- `hi8` (00_scope.md R11). -/
def hi8 (x : Half) : Byte := BitVec.ofNat 8 (x.toNat / 256 % 256)

/-- `le16`: low byte first (00_scope.md R11, 20_memory.md R64). An `int16` is its pattern, so `to_u16` has
already been taken (20_memory.md R65). -/
def le16 (v : Half) : List Byte := [lo8 v, hi8 v]

/-- `le16s` (00_scope.md R11). -/
def le16s : List Half → List Byte
  | [] => []
  | v :: vs => le16 v ++ le16s vs

/-- `le32` (00_scope.md R11). -/
def le32 (x : BitVec 32) : List Byte :=
  [BitVec.ofNat 8 (x.toNat % 256), BitVec.ofNat 8 (x.toNat / 2 ^ 8 % 256),
   BitVec.ofNat 8 (x.toNat / 2 ^ 16 % 256), BitVec.ofNat 8 (x.toNat / 2 ^ 24 % 256)]

/-- `u16le` (00_scope.md R11). -/
def u16le (b0 b1 : Byte) : Half := BitVec.ofNat 16 (b0.toNat + 256 * b1.toNat)

/-- A 32-bit value from four bytes, low byte first (20_memory.md R64). -/
def u32le (b0 b1 b2 b3 : Byte) : BitVec 32 :=
  BitVec.ofNat 32 (b0.toNat + 256 * b1.toNat + 65536 * b2.toNat + 16777216 * b3.toNat)

/-- Consecutive little-endian 16-bit values of a byte sequence; an odd last byte is no value. -/
def u16s : List Byte → List Half
  | b0 :: b1 :: rest => u16le b0 b1 :: u16s rest
  | _ => []

/-- The field at index `i`: bytes `i` and `i + 1`, low byte first (43_frame_decode.md R170, R175). Every
rule has checked the length before it reads (00_scope.md R10); the 0 of `getD` is never read then. -/
def fieldAt (b : List Byte) (i : Nat) : Half := u16le (b.getD i 0) (b.getD (i + 1) 0)

/-- `b[i..j)` (00_scope.md R10). -/
def slice (b : List Byte) (i j : Nat) : List Byte := (b.take j).drop i

/-- The unbounded sum of a byte sequence. -/
def byteSum : List Byte → Nat
  | [] => 0
  | x :: rest => x.toNat + byteSum rest

/-- `SUM8` (40_checksum.md R130). -/
def sum8 (b : List Byte) : Byte := BitVec.ofNat 8 (byteSum b % 256)

/-- The escape byte (00_scope.md R8, 44_byte_stuffer.md R200). -/
def esc : Byte := 0xA5

/-- The start marker byte of Variant B (00_scope.md R8). -/
def startMarker : Byte := 0xAA

/-- `is_reserved` (44_byte_stuffer.md R200). -/
def isReserved (x : Byte) : Bool := x == 0xAA || x == 0x55 || x == 0xA5

/-- `STUFF` as a function (44_byte_stuffer.md R201). -/
def stuff : List Byte → List Byte
  | [] => []
  | x :: rest => if isReserved x then esc :: x :: stuff rest else x :: stuff rest

/-- `UNSTUFF` as a function: the bytes and `dangling` (44_byte_stuffer.md R205). -/
def unstuff : List Byte → List Byte × Bool
  | [] => ([], false)
  | [x] => if x = esc then ([], true) else ([x], false)
  | x :: y :: rest =>
    if x = esc then (y :: (unstuff rest).1, (unstuff rest).2)
    else (x :: (unstuff (y :: rest)).1, (unstuff (y :: rest)).2)

/-- `STUFF_FRAME`: the two leading and the two trailing bytes pass unchanged (44_byte_stuffer.md R202). -/
def stuffFrame (u : List Byte) : List Byte :=
  u.take 2 ++ stuff (slice u 2 (u.length - 2)) ++ u.drop (u.length - 2)

end Sys2Proof
end

