-- ==== Sys2Proof/Syntax.lean ====
section
/-! DEFINITION. The operations of spec/opcode_table.json, one constructor a row (30_encoding.md R109, R112), and the
command record (30_encoding.md R108). -/

namespace Sys2Proof

/-- The command record the host presents (30_encoding.md R108). -/
structure Command where
  op : Byte
  name : Byte
  dev : Byte
  count : BitVec 4
  values : Six Half
deriving DecidableEq, Repr, Inhabited

/-- The fields of an unstuffed Variant B request frame after its leading pair (30_encoding.md R96). -/
structure BFrame where
  /-- `id0..id3` as one value. -/
  id : BitVec 32
  /-- The payload window, eight bytes. -/
  window : List Byte
  dataLen : Byte
  /-- The three extension bytes. -/
  ext : List Byte
  ck : Byte
  /-- The trailing pair. -/
  tail : List Byte
deriving DecidableEq, Repr, Inhabited

/-- The operations. The first three are host commands, the next fifteen internal operations
(30_encoding.md R109), the last four the wire request formats (30_encoding.md R112). -/
inductive Instr
  /-- WRREG (45_register_access.md R230). -/
  | wrreg (name dev : Byte) (count : BitVec 4) (values : Six Half)
  /-- RDREG (45_register_access.md R236). `values` loads `WV` (30_encoding.md R108) and is not read. -/
  | rdreg (name dev : Byte) (count : BitVec 4) (values : Six Half)
  /-- RESET (70_reset_and_hazards.md R320). -/
  | reset
  /-- LOOKUP (41_regmap.md R142). -/
  | lookup (name : Byte)
  /-- CKSUM (40_checksum.md R132). -/
  | cksum (b : List Byte)
  /-- ENC.A.WR (42_frame_encode.md R150). -/
  | encAWr (dev : Byte) (addr : Half) (vals : List Half)
  /-- ENC.A.RD (42_frame_encode.md R152). -/
  | encARd (dev : Byte) (addr : Half)
  /-- ENC.B.WR (42_frame_encode.md R154). -/
  | encBWr (addr : Half) (vals : List Half)
  /-- ENC.B.RD (42_frame_encode.md R156); `c` is the number of values requested. -/
  | encBRd (addr : Half) (c : Byte)
  /-- STUFF (44_byte_stuffer.md R201). -/
  | stuff (b : List Byte)
  /-- UNSTUFF (44_byte_stuffer.md R205). -/
  | unstuff (b : List Byte)
  /-- DEC.A (43_frame_decode.md R170). -/
  | decA (raw : List Byte)
  /-- DEC.B (43_frame_decode.md R175). -/
  | decB (raw : List Byte)
  /-- SAN.CLAMP (43_frame_decode.md R184). -/
  | sanClamp (u : Half)
  /-- SAN.SIGNED (43_frame_decode.md R185). -/
  | sanSigned (u : Half)
  /-- SEND (46_transport_wait.md R260). -/
  | send (b : List Byte)
  /-- RECV (46_transport_wait.md R261); `t` is a duration without a unit. -/
  | recv (max t : Half)
  /-- WAITRSP (46_transport_wait.md R266). -/
  | waitrsp
  /-- The wire format A-WR (30_encoding.md R92). -/
  | frameAWr (dev len : Byte) (addr : Half) (vals : List Half) (ck : Byte)
  /-- The wire format A-RD (30_encoding.md R93). -/
  | frameARd (dev len : Byte) (addr : Half) (respLen ck : Byte)
  /-- The wire format B-WR (30_encoding.md R96, R97). -/
  | frameBWr (f : BFrame)
  /-- The wire format B-RD (30_encoding.md R96, R98). -/
  | frameBRd (f : BFrame)
deriving DecidableEq, Repr, Inhabited

end Sys2Proof
end

