-- ==== Sys2Proof/WellFormed.lean ====
section
/-! DEFINITION. Which operations are well formed: their operands lie in the ranges the spec gives them and fit the
image of Decode.lean; a wire frame is one that an encoder of 42_frame_encode.md can have built. -/

namespace Sys2Proof

/-- A byte sequence whose length fits the image's two length bytes (log 7). -/
def fitsImage (b : List Byte) : Bool := b.length < 65536

/-- A value list whose length fits the image's length byte (log 7). -/
def valsFit (vals : List Half) : Bool := vals.length < 256

/-- The bytes 2 to 6 + 2n of an A-WR frame, the range of its checksum (40_checksum.md R133). -/
def frameAWrRange (dev len : Byte) (addr : Half) (vals : List Half) : List Byte :=
  [dev, len, 0x12, lo8 addr, hi8 addr] ++ le16s vals

/-- The bytes 2 to 7 of an A-RD frame, the range of its checksum (40_checksum.md R133). -/
def frameARdRange (dev len : Byte) (addr : Half) (respLen : Byte) : List Byte :=
  [dev, len, 0x11, lo8 addr, hi8 addr, respLen]

/-- `U[2..18)`, the range of a Variant B checksum (40_checksum.md R134). -/
def BFrame.range (f : BFrame) : List Byte := le32 f.id ++ f.window ++ [f.dataLen] ++ f.ext

/-- `id[31:14]` (30_encoding.md R99). -/
def BFrame.idHigh (f : BFrame) : Nat := f.id.toNat / 16384

/-- The parts a Variant B request has whatever it asks (30_encoding.md R96, R99). -/
def BFrame.shapeOk (f : BFrame) : Bool :=
  f.id.toNat % 16384 == 0x3FFF && f.window.length == 8 && f.ext == [0x00, 0x01, 0x00] &&
    f.ck == sum8 f.range && f.tail == [0x55, 0x55]

/-- The window of a write: `dataLen` meaningful bytes, an even number up to 8, then zeros
(30_encoding.md R97). -/
def BFrame.writeWindowOk (f : BFrame) : Bool :=
  f.dataLen.toNat ≤ 8 && f.dataLen.toNat % 2 == 0 &&
    (f.window.drop f.dataLen.toNat).all (· == 0x00)

/-- The window of a read in either form of `B_READ_FORM` (30_encoding.md R98). -/
def BFrame.readWindowOk (f : BFrame) : Bool :=
  (f.dataLen == 0 && f.window.all (· == 0x00)) ||
    (f.dataLen == 1 && (f.window.take 1 == [0x08] || f.window.take 1 == [0x04]) &&
      (f.window.drop 1).all (· == 0x00))

/-- The well-formed operations. -/
def wellFormed : Instr → Bool
  | .wrreg _ _ _ _ => true
  | .rdreg _ _ _ _ => true
  | .reset => true
  | .lookup _ => true
  | .cksum b => fitsImage b
  | .encAWr _ _ vals => valsFit vals
  | .encARd _ _ => true
  | .encBWr _ vals => valsFit vals
  | .encBRd _ c => c == 4 || c == 2
  | .stuff b => fitsImage b
  | .unstuff b => fitsImage b
  | .decA raw => fitsImage raw
  | .decB raw => fitsImage raw
  | .sanClamp _ => true
  | .sanSigned _ => true
  | .send b => !b.isEmpty && fitsImage b
  | .recv _ _ => true
  | .waitrsp => true
  | .frameAWr dev len addr vals ck =>
    vals.length ≤ 6 && len.toNat == 2 * vals.length + 3 && ck == sum8 (frameAWrRange dev len addr vals)
  | .frameARd dev len addr respLen ck =>
    respLen == 0x0C && ck == sum8 (frameARdRange dev len addr respLen)
  | .frameBWr f =>
    f.shapeOk && 4096 ≤ f.idHigh && f.idHigh < 8192 && f.writeWindowOk
  | .frameBRd f => f.shapeOk && f.idHigh < 4096 && f.readWindowOk

end Sys2Proof
end

