-- ==== Sys2Proof/Decode.lean ====
section
/-! DEFINITION. From bytes to operations and back. The spec gives the operation codes (30_encoding.md R109), the wire
formats (R92, R93, R96, R101) and how to tell them apart (R104); it fixes no bit layout for an operation's operands
(92_eei_decisions.md D1), so the layout of the operands behind a code is the model's (DESIGN CHOICE, log 7, safe: no
result depends on it). -/

namespace Sys2Proof

/-- Why bytes are no operation. -/
inductive DecodeError
  /-- There is no byte at all. -/
  | emptyImage
  /-- The bytes end before the operation does. -/
  | truncated
  /-- The first byte is neither an operation code of 30_encoding.md R109 nor a start marker of R104. -/
  | unknownCode (b : Byte)
  /-- The byte that holds the four-bit COUNT has a bit set above them. -/
  | countField (b : Byte)
  /-- EB is not followed by 90, or AA not by AA (30_encoding.md R104). -/
  | badStartMarker (b : Byte)
  /-- Byte 4 of a Variant A frame is neither 11 nor 12 (30_encoding.md R104, R105). -/
  | variantAOpcode (b : Byte)
  /-- `id3` tells neither a write nor a read of an address below 4096 (30_encoding.md R104). -/
  | identifierClass (b : Byte)
deriving DecidableEq, Repr, Inhabited

/-- What decoding answers: an operation and the bytes behind it, or why there is none. -/
abbrev Decoded := Except DecodeError (Instr × List Byte)

/-- The first `n` bytes and the rest. -/
def takeBytes (n : Nat) (bs : List Byte) : Except DecodeError (List Byte × List Byte) :=
  if bs.length < n then .error .truncated else .ok (bs.take n, bs.drop n)

/-- The first `n` bytes that remain when escapes are removed, and the rest as it stands
(44_byte_stuffer.md R205, bounded by the known length of the region, 30_encoding.md R101). -/
def takeUnstuffed : Nat → List Byte → Except DecodeError (List Byte × List Byte)
  | 0, bs => .ok ([], bs)
  | _ + 1, [] => .error .truncated
  | n + 1, x :: rest =>
    if x = esc then
      match rest with
      | [] => .error .truncated
      | y :: rest' =>
        match takeUnstuffed n rest' with
        | .ok (b, r) => .ok (y :: b, r)
        | .error e => .error e
    else
      match takeUnstuffed n rest with
      | .ok (b, r) => .ok (x :: b, r)
      | .error e => .error e

/-- A byte sequence behind two length bytes, low byte first. -/
def takeCounted : List Byte → Except DecodeError (List Byte × List Byte)
  | l0 :: l1 :: rest => takeBytes (u16le l0 l1).toNat rest
  | _ => .error .truncated

/-- Values behind one length byte. -/
def takeVals : List Byte → Except DecodeError (List Half × List Byte)
  | n :: rest =>
    match takeBytes (2 * n.toNat) rest with
    | .ok (b, r) => .ok (u16s b, r)
    | .error e => .error e
  | _ => .error .truncated

/-- An operation of one byte sequence. -/
def decodeCounted (mk : List Byte → Instr) (rest : List Byte) : Decoded :=
  match takeCounted rest with
  | .ok (b, r) => .ok (mk b, r)
  | .error e => .error e

/-- The command record behind an operation code: name, device, count, six values. -/
def decodeRecord (op : Byte) : List Byte → Except DecodeError (Command × List Byte)
  | name :: dev :: count :: a0 :: a1 :: b0 :: b1 :: c0 :: c1 :: d0 :: d1 :: e0 :: e1 :: f0 :: f1 :: rest =>
    if 16 ≤ count.toNat then .error (.countField count)
    else .ok (⟨op, name, dev, BitVec.ofNat 4 count.toNat,
      ⟨u16le a0 a1, u16le b0 b1, u16le c0 c1, u16le d0 d1, u16le e0 e1, u16le f0 f1⟩⟩, rest)
  | _ => .error .truncated

/-- The host command a record is (30_encoding.md R109): none for every other code (R110). -/
def decodeCommand (c : Command) : Option Instr :=
  match c.op.toNat with
  | 0x01 => some (.wrreg c.name c.dev c.count c.values)
  | 0x02 => some (.rdreg c.name c.dev c.count c.values)
  | 0x0F => some .reset
  | _ => none

/-- A host command from the bytes behind its code. -/
def decodeHost (op : Byte) (rest : List Byte) : Decoded :=
  match decodeRecord op rest with
  | .error e => .error e
  | .ok (c, r) =>
    match decodeCommand c with
    | some i => .ok (i, r)
    | none => .error (.unknownCode op)

/-- A Variant A frame from the bytes behind its header (30_encoding.md R92, R93, R104). The number of values
is read from the length byte as R95 counts it. -/
def decodeFrameA : List Byte → Decoded
  | dev :: len :: opcode :: lo :: hi :: rest =>
    match opcode.toNat with
    | 0x12 =>
      match takeBytes (2 * ((len.toNat - 3) / 2)) rest with
      | .error e => .error e
      | .ok (_, []) => .error .truncated
      | .ok (b, ck :: r) => .ok (.frameAWr dev len (u16le lo hi) (u16s b) ck, r)
    | 0x11 =>
      match rest with
      | respLen :: ck :: r => .ok (.frameARd dev len (u16le lo hi) respLen ck, r)
      | _ => .error .truncated
    | _ => .error (.variantAOpcode opcode)
  | _ => .error .truncated

/-- The fields of a Variant B frame from its seventeen unstuffed bytes `U[2..19)` and its trailing pair
(30_encoding.md R96). -/
def bFrameOf (u : List Byte) (tail : List Byte) : BFrame where
  id := u32le (u.getD 0 0) (u.getD 1 0) (u.getD 2 0) (u.getD 3 0)
  window := slice u 4 12
  dataLen := u.getD 12 0
  ext := slice u 13 16
  ck := u.getD 16 0
  tail := tail

/-- A Variant B frame from the bytes behind its leading pair: unstuff, then look at `id3`
(30_encoding.md R101, R104). -/
def decodeFrameB (rest : List Byte) : Decoded :=
  match takeUnstuffed 17 rest with
  | .error e => .error e
  | .ok (u, t0 :: t1 :: r) =>
    let f := bFrameOf u [t0, t1]
    if (u.getD 3 0).toNat / 4 = 1 then .ok (.frameBWr f, r)
    else if (u.getD 3 0).toNat / 4 = 0 then .ok (.frameBRd f, r)
    else .error (.identifierClass (u.getD 3 0))
  | .ok (_, _) => .error .truncated

/-- The internal operations of 30_encoding.md R109 from the bytes behind their code. -/
def decodeInternal (code : Byte) (rest : List Byte) : Decoded :=
  match code.toNat with
  | 0x10 => match rest with | n :: r => .ok (.lookup n, r) | _ => .error .truncated
  | 0x11 => decodeCounted .cksum rest
  | 0x12 =>
    match rest with
    | dev :: lo :: hi :: rest' =>
      match takeVals rest' with
      | .ok (v, r) => .ok (.encAWr dev (u16le lo hi) v, r)
      | .error e => .error e
    | _ => .error .truncated
  | 0x13 =>
    match rest with
    | dev :: lo :: hi :: r => .ok (.encARd dev (u16le lo hi), r)
    | _ => .error .truncated
  | 0x14 =>
    match rest with
    | lo :: hi :: rest' =>
      match takeVals rest' with
      | .ok (v, r) => .ok (.encBWr (u16le lo hi) v, r)
      | .error e => .error e
    | _ => .error .truncated
  | 0x15 =>
    match rest with
    | lo :: hi :: c :: r => .ok (.encBRd (u16le lo hi) c, r)
    | _ => .error .truncated
  | 0x16 => decodeCounted .stuff rest
  | 0x17 => decodeCounted .unstuff rest
  | 0x18 => decodeCounted .decA rest
  | 0x19 => decodeCounted .decB rest
  | 0x1A => match rest with | lo :: hi :: r => .ok (.sanClamp (u16le lo hi), r) | _ => .error .truncated
  | 0x1B => match rest with | lo :: hi :: r => .ok (.sanSigned (u16le lo hi), r) | _ => .error .truncated
  | 0x1C => decodeCounted .send rest
  | 0x1D =>
    match rest with
    | m0 :: m1 :: t0 :: t1 :: r => .ok (.recv (u16le m0 m1) (u16le t0 t1), r)
    | _ => .error .truncated
  | 0x1E => .ok (.waitrsp, rest)
  | _ => .error (.unknownCode code)

/-- The code of a host command (30_encoding.md R109). -/
def isHostCode (b : Byte) : Bool := b == 0x01 || b == 0x02 || b == 0x0F

/-- The operation at the head of a byte sequence, and the bytes behind it. -/
def decode : List Byte → Decoded
  | [] => .error .emptyImage
  | b :: rest =>
    if isHostCode b then decodeHost b rest
    else if b = 0xEB then
      match rest with
      | [] => .error .truncated
      | b1 :: rest' => if b1 = 0x90 then decodeFrameA rest' else .error (.badStartMarker b1)
    else if b = 0xAA then
      match rest with
      | [] => .error .truncated
      | b1 :: rest' => if b1 = 0xAA then decodeFrameB rest' else .error (.badStartMarker b1)
    else decodeInternal b rest

/-- A byte sequence with its two length bytes. -/
def counted (b : List Byte) : List Byte := le16 (BitVec.ofNat 16 b.length) ++ b

/-- Values with their length byte. -/
def countedVals (v : List Half) : List Byte := BitVec.ofNat 8 v.length :: le16s v

/-- The bytes of a command record. -/
def encodeRecord (c : Command) : List Byte :=
  [c.op, c.name, c.dev, BitVec.ofNat 8 c.count.toNat] ++ le16s c.values.toList

/-- The bytes of a Variant B frame on the wire (30_encoding.md R101). -/
def encodeFrameB (f : BFrame) : List Byte := [0xAA, 0xAA] ++ stuff (f.range ++ [f.ck]) ++ f.tail

/-- The bytes of an operation. -/
def encode : Instr → List Byte
  | .wrreg name dev count values => encodeRecord ⟨0x01, name, dev, count, values⟩
  | .rdreg name dev count values => encodeRecord ⟨0x02, name, dev, count, values⟩
  | .reset => encodeRecord ⟨0x0F, 0, 0, 0, Six.all 0⟩
  | .lookup name => [0x10, name]
  | .cksum b => 0x11 :: counted b
  | .encAWr dev addr vals => [0x12, dev] ++ le16 addr ++ countedVals vals
  | .encARd dev addr => [0x13, dev] ++ le16 addr
  | .encBWr addr vals => [0x14] ++ le16 addr ++ countedVals vals
  | .encBRd addr c => [0x15] ++ le16 addr ++ [c]
  | .stuff b => 0x16 :: counted b
  | .unstuff b => 0x17 :: counted b
  | .decA raw => 0x18 :: counted raw
  | .decB raw => 0x19 :: counted raw
  | .sanClamp u => 0x1A :: le16 u
  | .sanSigned u => 0x1B :: le16 u
  | .send b => 0x1C :: counted b
  | .recv max t => [0x1D] ++ le16 max ++ le16 t
  | .waitrsp => [0x1E]
  | .frameAWr dev len addr vals ck => [0xEB, 0x90] ++ frameAWrRange dev len addr vals ++ [ck]
  | .frameARd dev len addr respLen ck => [0xEB, 0x90] ++ frameARdRange dev len addr respLen ++ [ck]
  | .frameBWr f => encodeFrameB f
  | .frameBRd f => encodeFrameB f

/-- The bytes of a table word, least significant first. -/
def wordBytes : Nat → Nat → List Byte
  | 0, _ => []
  | n + 1, w => BitVec.ofNat 8 (w % 256) :: wordBytes n (w / 256)

/-- Whether bytes begin like a wire frame (30_encoding.md R104). -/
def startsFrame (b : List Byte) : Bool := b.take 2 == [0xEB, 0x90] || b.take 2 == [0xAA, 0xAA]

/-- The bytes of an operation whose table word is `w`. The rows of one byte have it in bits 7..0. The notes of
the four wire rows number their words with byte 0 most significant: a word that begins with a start marker in
that order is laid out so, every other with its first byte in bits 7..0 (DEDUCED, log 9, safe). -/
def tableBytes (nbits w : Nat) : List Byte :=
  let little := wordBytes (nbits / 8) w
  if startsFrame little.reverse then little.reverse else little

/-- The image of a table word: every bit above it is 0, for more bytes than any row with zero length fields
has. -/
def tableImage (nbits w : Nat) : List Byte := tableBytes nbits w ++ List.replicate 40 0

/-- The operation the decoder reads from a table word. -/
def decodeTableWord (nbits w : Nat) : Option Instr :=
  match decode (tableImage nbits w) with
  | .ok (i, _) => some i
  | .error _ => none

end Sys2Proof
end

