-- ==== Sys2Proof/Machine/State.lean ====
section
/-! DEFINITION. The session object of 10_state.md as plain data, its outputs and inputs, the ways a step can stop, and
the reset state (10_state.md R35). -/

namespace Sys2Proof.Machine

/-- The sequencer phases (10_state.md R26, R28). -/
inductive Phase
  | idle
  | build
  | send
  | wait
  | decode
deriving DecidableEq, Repr, Inhabited

/-- The fault causes a transaction ends with (60_exceptions.md R280); `Busy` is an output, not one of them. -/
inductive Cause
  | unknownRegister
  | timeoutError
  | transportError
  | malformedFrame
  | badCount
  | checksumMismatch
  | illegalCommand
deriving DecidableEq, Repr, Inhabited

/-- The completion record (30_encoding.md R108). `rv` lists the `rcount` values that exist, none after a fault
(60_exceptions.md R290; log 24). -/
structure Completion where
  ok : Bool
  fault : BitVec 4
  finfo : BitVec 2
  rcount : BitVec 3
  rv : List (BitVec 17)
deriving DecidableEq, Repr, Inhabited

/-- What FCODEC puts out, in order (the model's own trace, log 22). -/
inductive Output
  /-- A frame handed to the transport, and the transport's answer (46_transport_wait.md R260). -/
  | sent (frame : List Byte) (answer : SendAnswer)
  /-- A receive attempt and its answer (46_transport_wait.md R261). -/
  | received (answer : RecvAnswer)
  /-- A completion record (30_encoding.md R108). -/
  | completion (c : Completion)
  /-- `refused(Busy)` to the presenter (60_exceptions.md R287). -/
  | refusedBusy
  /-- The value of a register the host read, sign-extended to a bus of any width (10_state.md R34). -/
  | readData (h : Nat) (v : Int)
deriving DecidableEq, Repr, Inhabited

/-- What the outside world presents in one step (log 2). -/
inductive Input
  /-- Nothing: the sequencer may take its next transition. -/
  | idle
  /-- A command record on the command port (30_encoding.md R108). -/
  | command (c : Command)
  /-- The image of an operation issued directly (log 6). -/
  | issue (image : List Byte)
  /-- A host read of register index H`h` (10_state.md R34). -/
  | hostRead (h : Nat)
  /-- A host write of register index H`h` (10_state.md R34). -/
  | hostWrite (h v : Nat)
  /-- The power-on reset (70_reset_and_hazards.md R320). -/
  | powerOn
deriving DecidableEq, Repr, Inhabited

/-- The value an operation issued directly returned (the model's own latch, log 6). -/
inductive OpResult
  | none
  | byte (b : Byte)
  | bytes (b : List Byte)
  | unstuffed (b : List Byte) (dangling : Bool)
  | six (f : Six Half)
  | four (f : Four Half)
  | value (v : Int)
  | entry (addr : Half) (cls : RegClass)
  | answer (a : RecvAnswer)
deriving DecidableEq, Repr, Inhabited

/-- The ways the host program can stop the machine. An operation never does: its faults are next states. -/
inductive Fault
  /-- A read of `RV[i]` that holds no value (10_state.md R23, 93_implementation_defined.md U6), raised by a host
  read. Safe: the model stops where the hardware returns an unspecified value. -/
  | readNoValue (i : Nat)
  /-- A read of a write-only index H0 to H9 (10_state.md R34), raised by a host read. Safe: the spec gives it no
  effect. -/
  | readOfWriteOnly (h : Nat)
  /-- A write to a read-only index H10 to H18 (10_state.md R34), raised by a host write. Safe: the spec gives it no
  effect. -/
  | writeOfReadOnly (h : Nat)
  /-- An index above H18, which 10_state.md R34 does not assign, raised by a host access. Safe: the spec gives it no
  effect. -/
  | noSuchIndex (h : Nat)
deriving DecidableEq, Repr, Inhabited

/-- What the model rejects. -/
inductive Refusal
  /-- An instruction that has no meaning yet, raised by `exec` in its arm. Safe. -/
  | notModelled (mnemonic : String)
  /-- Bytes issued directly that are no operation, raised by `step`. Safe: the spec gives such bytes no effect; an
  illegal code on the command port is not this, it is the fault IllegalCommand. -/
  | undecodable (e : DecodeError)
deriving DecidableEq, Repr, Inhabited

/-- The whole state. The fields up to `stg` are 10_state.md's; `cfg` is the instance's parameters (R32, log 1); the
last six are the model's own. -/
structure State where
  /-- `OP` (10_state.md R21). -/
  op : Byte
  /-- `NAME` (R21). -/
  name : Byte
  /-- `DEVID` (R21). -/
  devid : Byte
  /-- `COUNT` (R21). -/
  count : BitVec 4
  /-- `WV[0..5]` (R21, R22). -/
  wv : Six Half
  /-- `RV[0..5]` (R23). -/
  rv : Six (BitVec 17)
  /-- `RCOUNT` (R23). -/
  rcount : BitVec 3
  /-- `RVALID` (R23). -/
  rvalid : Bool
  /-- `STATUS.BUSY` (R24). -/
  busy : Bool
  /-- `STATUS.DONE` (R24). -/
  done : Bool
  /-- `STATUS.ERR` (R24). -/
  err : Bool
  /-- `FAULT` (R25). -/
  fault : BitVec 4
  /-- `FINFO` (R25). -/
  finfo : BitVec 2
  /-- `seq` (R26, R28). -/
  seq : Phase
  /-- `sb` (R26). -/
  sb : BitVec 1
  /-- `nsb` (R26). -/
  nsb : BitVec 2
  /-- `tries` (R26). -/
  tries : Nat
  /-- `ADDR` (R26). -/
  addr : Half
  /-- `CLS` (R26). -/
  cls : RegClass
  /-- `TXBUF` (R27). -/
  txbuf : List Byte
  /-- `RXBUF` (R27). -/
  rxbuf : List Byte
  /-- `ACC` (R29). -/
  acc : Byte
  /-- `ESCP` (R30). -/
  escp : Bool
  /-- `START` (R31). -/
  start : Nat
  /-- `STG[0..5]` (R31). -/
  stg : Six Half
  /-- The instance's parameters (R32). -/
  cfg : Config
  /-- What the outside world presents, one entry a step (model's own, log 2). -/
  inputs : List Input
  /-- The transport's answers to the next sends (model's own, log 3). -/
  sendAns : List SendAnswer
  /-- The transport's answers to the next receives (model's own, log 3). -/
  recvAns : List RecvAnswer
  /-- How many free draws have been made (model's own, log 3). -/
  draws : Nat
  /-- What has been put out, oldest first (model's own, log 22). -/
  outs : List Output
  /-- What the last directly issued operation returned (model's own, log 6). -/
  res : OpResult
deriving DecidableEq, Repr, Inhabited

/-- `TXLEN` (10_state.md R27), a view of the buffer (log 19). -/
def State.txlen (s : State) : Nat := s.txbuf.length

/-- `RXLEN` (10_state.md R27), a view of the buffer (log 19). -/
def State.rxlen (s : State) : Nat := s.rxbuf.length

/-- The reset state of an instance with configuration `c` (10_state.md R35). `rv` is unspecified there: 0 is a
DESIGN CHOICE (log 12, unsafe for a claim that rests on it; RVALID = 0 makes it unreadable). -/
def State.resetWith (c : Config) : State where
  op := 0x00
  name := c.firstName
  devid := 0x00
  count := 0
  wv := Six.all 0
  rv := Six.all 0
  rcount := 0
  rvalid := false
  busy := false
  done := false
  err := false
  fault := 0
  finfo := 0
  seq := .idle
  sb := 0
  nsb := 1
  tries := 0
  addr := 0
  cls := .magnitude
  txbuf := []
  rxbuf := []
  acc := 0
  escp := false
  start := 0
  stg := Six.all 0
  cfg := c
  inputs := []
  sendAns := []
  recvAns := []
  draws := 0
  outs := []
  res := .none

/-- The machine right after reset, for the default parameters (10_state.md R35, log 1). -/
def State.reset : State := State.resetWith Config.default

end Sys2Proof.Machine
end

