-- ==== Sys2Proof/Machine/Flags.lean ====
section
/-! DEFINITION. STATUS, FAULT and FINFO: their values, their host views and how FINFO is computed
(10_state.md R24, R25, R34; 60_exceptions.md R280, R290). There are no arithmetic flags (R24). -/

namespace Sys2Proof.Machine

/-- The code of a fault cause (60_exceptions.md R280). -/
def Cause.code : Cause → BitVec 4
  | .unknownRegister => 1
  | .timeoutError => 2
  | .transportError => 3
  | .malformedFrame => 4
  | .badCount => 5
  | .checksumMismatch => 6
  | .illegalCommand => 7

/-- 1 for true. -/
def bit (b : Bool) : Nat := if b then 1 else 0

/-- H10: bit 0 BUSY, bit 1 DONE, bit 2 ERR, other bits 0 (10_state.md R34). -/
def State.statusView (s : State) : Nat := bit s.busy + 2 * bit s.done + 4 * bit s.err

/-- H11: FAULT in bits 3:0, FINFO in bits 5:4 (10_state.md R34). -/
def State.faultView (s : State) : Nat := s.fault.toNat + 16 * s.finfo.toNat

/-- H12: RCOUNT in bits 2:0, RVALID in bit 3 (10_state.md R34). -/
def State.countView (s : State) : Nat := s.rcount.toNat + 8 * bit s.rvalid

/-- Whether some SEND of the transaction in flight has returned Ok (60_exceptions.md R290), read from where the
sequencer is: in the second exchange, or past SEND in the first (DEDUCED from 45_register_access.md R245, log 10). -/
def State.sendReturnedOk (s : State) : Bool := s.sb == 1 || s.seq == .wait || s.seq == .decode

/-- What fault entry writes into FINFO: bit 0 the sub-block, bit 1 whether a frame had been sent
(60_exceptions.md R290). Outside a transaction, for an operation issued directly, it is 0 (R285, log 10). -/
def State.finfoNow (s : State) : BitVec 2 :=
  if s.busy then BitVec.ofNat 2 (s.sb.toNat + 2 * bit s.sendReturnedOk) else 0

end Sys2Proof.Machine
end

