-- ==== Sys2Proof/Machine/Ops.lean ====
section
/-! DEFINITION. The shared operations on the state: fault entry (60_exceptions.md R290) and how a fault state is left
(R293), acceptance (45_register_access.md R221), completion (R246), the checksum accumulator (40_checksum.md R131), the
transmit buffer, the transport's answers, reset (70_reset_and_hazards.md R320). -/

namespace Sys2Proof.Machine

/-- How an operation ends: with a value, or with a fault raised, in the state it has left. -/
inductive Ran (α : Type)
  | done (v : α) (s : State)
  | raised (c : Cause) (s : State)

/-- Append to the trace of outputs (log 22). -/
def State.emit (o : Output) (s : State) : State := { s with outs := s.outs ++ [o] }

/-- Fault entry (60_exceptions.md R290). Operand registers, RV, RCOUNT, RVALID and the internal registers keep
their values; there is no handler and no saved context. -/
def State.raise (c : Cause) (s : State) : State :=
  { s with
    fault := c.code
    finfo := s.finfoNow
    err := true
    done := true
    busy := false
    seq := .idle
    outs := s.outs ++ [.completion ⟨false, c.code, s.finfoNow, 0, []⟩] }

/-- What acceptance clears (45_register_access.md R221 step 2): the way out of a fault state, which has no return
operation (60_exceptions.md R293). The phase is IDLE at every acceptance of the spec; an unfinished WAITRSP
that was issued directly ends here (log 23). -/
def State.clearForCommand (s : State) : State :=
  { s with
    busy := true
    done := false
    err := false
    fault := 0
    finfo := 0
    rvalid := false
    rcount := 0
    sb := 0
    seq := .idle }

/-- Acceptance: the operand registers load together from the record (10_state.md R21, 30_encoding.md R108), then
the status of the last command is cleared (45_register_access.md R221 step 2). -/
def State.accept (c : Command) (s : State) : State :=
  State.clearForCommand
    { s with op := c.op, name := c.name, devid := c.dev, count := c.count, wv := c.values }

/-- The refusal of the command port (60_exceptions.md R287): no register changes. -/
def State.refuseBusy (s : State) : State := s.emit .refusedBusy

/-- Completion without fault (45_register_access.md R246); FINFO is written with FAULT at every end of a
transaction (10_state.md R25), and is 0 as in the record. -/
def State.complete (s : State) : State :=
  { s with
    busy := false
    done := true
    err := false
    fault := 0
    finfo := 0
    seq := .idle
    outs := s.outs ++ [.completion ⟨true, 0, 0, s.rcount, s.rv.toList.take s.rcount.toNat⟩] }

/-- The state an operation issued directly leaves: its value in the latch, or fault entry (log 6, log 11). -/
def Ran.settle {α : Type} (result : α → OpResult) : Ran α → State
  | .done v s => { s with res := result v }
  | .raised c s => s.raise c

/-- `CKSUM.clear` (40_checksum.md R131). -/
def State.cksumClear (s : State) : State := { s with acc := 0x00 }

/-- `CKSUM.add` (40_checksum.md R131). -/
def State.cksumAdd (x : Byte) (s : State) : State := { s with acc := BitVec.ofNat 8 ((s.acc.toNat + x.toNat) % 256) }

/-- `CKSUM.add` of each byte in turn (40_checksum.md R132). -/
def State.cksumAddAll : List Byte → State → State
  | [], s => s
  | x :: rest, s => State.cksumAddAll rest (s.cksumAdd x)

/-- `CKSUM` over a range: clear, then add (40_checksum.md R132). -/
def State.cksumRun (b : List Byte) (s : State) : State := State.cksumAddAll b s.cksumClear

/-- `TXBUF <- F ; TXLEN <- len(F)` (42_frame_encode.md). -/
def State.putTx (f : List Byte) (s : State) : State := { s with txbuf := f }

/-- The transport's answer to a `send`: the scripted one, else a free draw (46_transport_wait.md R260, log 3). -/
def State.sendAnswer (s : State) : SendAnswer :=
  match s.sendAns with
  | a :: _ => a
  | [] => Config.freeSend s.draws

/-- The state after that answer has been given. -/
def State.afterSendAnswer (s : State) : State :=
  match s.sendAns with
  | _ :: rest => { s with sendAns := rest }
  | [] => { s with draws := s.draws + 1 }

/-- The most bytes one receive attempt can bring: what was asked for, within the capacity of RXBUF
(46_transport_wait.md R261, 10_state.md R27; log 4). -/
def State.recvLimit (max : Nat) (s : State) : Nat := Nat.min max s.cfg.rxCap

/-- An answer of the transport within its contract, `len(b) <= max` (46_transport_wait.md R261). -/
def capAnswer (limit : Nat) : RecvAnswer → RecvAnswer
  | .bytes b => .bytes (b.take limit)
  | .timeout => .timeout
  | .failure => .failure

/-- The transport's answer to a `receive`: the scripted one, else a free draw (46_transport_wait.md R261,
log 3). -/
def State.recvAnswer (max : Nat) (s : State) : RecvAnswer :=
  match s.recvAns with
  | a :: _ => capAnswer (s.recvLimit max) a
  | [] => capAnswer (s.recvLimit max) (Config.freeRecv s.draws)

/-- The state after that answer has been given. -/
def State.afterRecvAnswer (s : State) : State :=
  match s.recvAns with
  | _ :: rest => { s with recvAns := rest }
  | [] => { s with draws := s.draws + 1 }

/-- What an answer puts into RXBUF, emptied before the attempt (46_transport_wait.md R261, R263). -/
def answerBytes : RecvAnswer → List Byte
  | .bytes b => b
  | .timeout => []
  | .failure => []

/-- Reset (70_reset_and_hazards.md R320): every register at its value of 10_state.md R35; RV is unspecified
there and takes a free value (log 13). The parameters, the outside world's inputs and answers and what has
already been put out are no state of FCODEC and stay. -/
def State.resetRegisters (s : State) : State :=
  { State.resetWith s.cfg with
    rv := Config.freeRv s.draws
    inputs := s.inputs
    sendAns := s.sendAns
    recvAns := s.recvAns
    draws := s.draws + 1
    outs := s.outs }

end Sys2Proof.Machine
end

