-- ==== Sys2Proof/Machine/ByteStuffer.lean ====
section
/-! DEFINITION. The operations STUFF and UNSTUFF (44_byte_stuffer.md R201, R205, R206). -/

namespace Sys2Proof.Machine

/-- One byte through the escape decoder: ESCP after it, and what it emits (44_byte_stuffer.md R206). -/
def unstuffByte (escp : Bool) (x : Byte) : Bool × List Byte :=
  if escp then (false, [x]) else if x = esc then (true, []) else (false, [x])

/-- The byte-serial escape decoder: the bytes emitted and ESCP at the end (44_byte_stuffer.md R206). -/
def unstuffSerial : Bool → List Byte → List Byte × Bool
  | escp, [] => ([], escp)
  | escp, x :: rest =>
    ((unstuffByte escp x).2 ++ (unstuffSerial (unstuffByte escp x).1 rest).1,
     (unstuffSerial (unstuffByte escp x).1 rest).2)

/-- UNSTUFF as the decoder uses it: ESCP starts at 0 and ends at `dangling` (44_byte_stuffer.md R205, R206). -/
def State.unstuff (b : List Byte) (s : State) : State := { s with escp := (unstuffSerial false b).2 }

/-- STUFF (44_byte_stuffer.md R201). TXBUF is written only when B_BUILD calls it. -/
def execStuff (b : List Byte) (s : State) : Host.Outcome State Fault Refusal :=
  .next { s with res := .bytes (stuff b) }

/-- UNSTUFF (44_byte_stuffer.md R205), by its byte-serial form (R206). -/
def execUnstuff (b : List Byte) (s : State) : Host.Outcome State Fault Refusal :=
  .next { s.unstuff b with res := .unstuffed (unstuffSerial false b).1 (unstuffSerial false b).2 }

end Sys2Proof.Machine
end

