-- ==== Sys2Proof/Machine/Checksum.lean ====
section
/-! DEFINITION. The operation CKSUM (40_checksum.md R130 to R132). -/

namespace Sys2Proof.Machine

/-- CKSUM (40_checksum.md R132): the byte-serial form; the result is ACC. -/
def execCksum (b : List Byte) (s : State) : Host.Outcome State Fault Refusal :=
  .next { s.cksumRun b with res := .byte (s.cksumRun b).acc }

end Sys2Proof.Machine
end

