-- ==== Sys2Proof/Machine/Control.lean ====
section
/-! DEFINITION. The host command RESET (70_reset_and_hazards.md R320). -/

namespace Sys2Proof.Machine

/-- RESET: accepted at any time, also while BUSY; no completion record (70_reset_and_hazards.md R320). -/
def execReset (s : State) : Host.Outcome State Fault Refusal := .next s.resetRegisters

end Sys2Proof.Machine
end

