-- ==== Sys2Proof/Machine/FrameDecode.lean ====
section
/-! DEFINITION. The frame decoder and the sanitisers: DEC.A, DEC.B, SAN.CLAMP, SAN.SIGNED
(43_frame_decode.md R170 to R186). -/

namespace Sys2Proof.Machine

/-- The six fields of a Variant A response: bytes 7 to 18 (43_frame_decode.md R170). -/
def fieldsA (raw : List Byte) : Six Half :=
  ⟨fieldAt raw 7, fieldAt raw 9, fieldAt raw 11, fieldAt raw 13, fieldAt raw 15, fieldAt raw 17⟩

/-- The four fields of a Variant B response from its start marker on: offsets 6 to 13
(43_frame_decode.md R175). -/
def fieldsB (k : List Byte) : Four Half := ⟨fieldAt k 6, fieldAt k 8, fieldAt k 10, fieldAt k 12⟩

/-- The index of the first start marker (43_frame_decode.md R176). -/
def findStart : List Byte → Option Nat
  | [] => none
  | x :: rest => if x = startMarker then some 0 else (findStart rest).map (· + 1)

/-- Run the accumulator over a response's checksum range when RX_VERIFY is on (10_state.md R29,
40_checksum.md R137; log 16). -/
def State.verifyRun (range : List Byte) (s : State) : State := if s.cfg.rxVerify then s.cksumRun range else s

/-- The bytes DEC.A needs (43_frame_decode.md R171). -/
def needA (c : Config) : Nat := if c.rxVerify then 20 else 19

/-- The bytes DEC.B needs from the start marker on (43_frame_decode.md R177). -/
def needB (c : Config) : Nat := if c.rxVerify then 19 else 14

/-- Whether DEC.A rejects the checksum byte (43_frame_decode.md R174). -/
def badSumA (c : Config) (raw : List Byte) : Bool := c.rxVerify && sum8 (slice raw 2 19) != raw.getD 19 0

/-- Whether DEC.B rejects the checksum byte (43_frame_decode.md R180). -/
def badSumB (c : Config) (k : List Byte) : Bool := c.rxVerify && sum8 (slice k 2 18) != k.getD 18 0

/-- DEC.A as the sequencer uses it (43_frame_decode.md R170, R171, R174). -/
def State.decA (raw : List Byte) (s : State) : Ran (Six Half) :=
  if raw.length < needA s.cfg then .raised .malformedFrame s
  else if badSumA s.cfg raw then
    .raised .checksumMismatch (s.verifyRun (slice raw 2 19))
  else .done (fieldsA raw) (s.verifyRun (slice raw 2 19))

/-- The bytes `K` of a Variant B response from its marker at `i` on, unstuffed when RX_UNSTUFF is on
(43_frame_decode.md R175, R179). -/
def responseB (c : Config) (raw : List Byte) (i : Nat) : List Byte :=
  if c.rxUnstuff then slice raw i (i + 2) ++ (unstuff (raw.drop (i + 2))).1 else raw.drop i

/-- START, and with RX_UNSTUFF the unstuffer's flag, after the marker at `i` is found (43_frame_decode.md
R175). -/
def State.marked (raw : List Byte) (i : Nat) (s : State) : State :=
  if s.cfg.rxUnstuff then State.unstuff (raw.drop (i + 2)) { s with start := i } else { s with start := i }

/-- DEC.B after the marker: `k` is `K` of R175 (43_frame_decode.md R175, R177, R180). -/
def State.decBAt (k : List Byte) (s : State) : Ran (Four Half) :=
  if k.length < needB s.cfg then .raised .malformedFrame s
  else if badSumB s.cfg k then
    .raised .checksumMismatch (s.verifyRun (slice k 2 18))
  else .done (fieldsB k) (s.verifyRun (slice k 2 18))

/-- DEC.B as the sequencer uses it (43_frame_decode.md R175). Without a marker nothing is written, START
included (log 17). -/
def State.decB (raw : List Byte) (s : State) : Ran (Four Half) :=
  match findStart raw with
  | none => .raised .malformedFrame s
  | some i => (s.marked raw i).decBAt (responseB s.cfg raw i)

/-- SAN.CLAMP as a function (43_frame_decode.md R184). -/
def sanClamp (u : Half) : Int := if 6000 < u.toNat then 0 else u.toNat

/-- SAN.SIGNED as a function; the comparison is strict (43_frame_decode.md R185). -/
def sanSigned (u : Half) : Int := if 32768 < u.toNat then (u.toNat : Int) - 65536 else u.toNat

/-- SANITIZE (43_frame_decode.md R186). -/
def sanitize (c : RegClass) (u : Half) : Int :=
  match c with
  | .magnitude => sanClamp u
  | .signed => sanSigned u

/-- DEC.A (43_frame_decode.md R170). -/
def execDecA (raw : List Byte) (s : State) : Host.Outcome State Fault Refusal :=
  .next ((s.decA raw).settle .six)

/-- DEC.B (43_frame_decode.md R175). -/
def execDecB (raw : List Byte) (s : State) : Host.Outcome State Fault Refusal :=
  .next ((s.decB raw).settle .four)

/-- SAN.CLAMP (43_frame_decode.md R184). -/
def execSanClamp (u : Half) (s : State) : Host.Outcome State Fault Refusal :=
  .next { s with res := .value (sanClamp u) }

/-- SAN.SIGNED (43_frame_decode.md R185). -/
def execSanSigned (u : Half) (s : State) : Host.Outcome State Fault Refusal :=
  .next { s with res := .value (sanSigned u) }

end Sys2Proof.Machine
end

