-- ==== Sys2Proof/Machine/Operands.lean ====
section
/-! DEFINITION. The operands of a transaction's operations, read from the registers: addresses (20_memory.md R63), the
partition of the values (45_register_access.md R222), the number of exchanges (R223), what a read asks for (R237), and
the register-name table (41_regmap.md R142). -/

namespace Sys2Proof.Machine

/-- The operation code of WRREG (30_encoding.md R109). -/
def opWrreg : Byte := 0x01

/-- The operation code of RDREG (30_encoding.md R109). -/
def opRdreg : Byte := 0x02

/-- `WV[0..COUNT)`: the values a WRREG supplies (10_state.md R22). -/
def State.suppliedValues (s : State) : List Half := s.wv.toList.take s.count.toNat

/-- The address of the exchange in progress: ADDR, or (ADDR + 8) mod 65536 for the second sub-block
(20_memory.md R63). -/
def State.exchangeAddr (s : State) : Half :=
  if s.sb = 0 then s.addr else BitVec.ofNat 16 ((s.addr.toNat + 8) % 65536)

/-- The values of the exchange in progress of a Variant B write: the first up to four, or the remaining up to
two (45_register_access.md R222). -/
def State.subBlockValues (s : State) : List Half :=
  if s.sb = 0 then s.suppliedValues.take 4 else s.suppliedValues.drop 4

/-- How many values the exchange in progress of a Variant B read asks for: 4, then 2, whatever COUNT is
(45_register_access.md R237). -/
def State.requestedValues (s : State) : Byte := if s.sb = 0 then 4 else 2

/-- `nsb` (45_register_access.md R223). -/
def exchangeCount (v : Variant) (count : Nat) : BitVec 2 :=
  match v with
  | .A => 1
  | .B => if count ≤ 4 then 1 else 2

/-- Whether COUNT is a legal count, 1 to 6 (45_register_access.md R220). -/
def countOk (count : BitVec 4) : Bool := 1 ≤ count.toNat && count.toNat ≤ 6

/-- The entry of a name: REGMAP is a map, so at most one entry has the name; of several the first counts
(41_regmap.md R142, log 26). -/
def findEntry (name : Byte) : List RegEntry → Option RegEntry
  | [] => none
  | e :: rest => if e.name = name then some e else findEntry name rest

end Sys2Proof.Machine
end

