-- ==== Sys2Proof/Machine/FrameEncode.lean ====
section
/-! DEFINITION. The frame encoder: ENC.A.WR, ENC.A.RD, ENC.B.WR, ENC.B.RD (42_frame_encode.md R150 to R156). -/

namespace Sys2Proof.Machine

/-- A Variant A frame around its checksum range (42_frame_encode.md R150, R152; 40_checksum.md R133). -/
def frameA (body : List Byte) : List Byte := [0xEB, 0x90] ++ body ++ [sum8 body]

/-- Bytes 2 to 6 + 2n of an A-WR frame (42_frame_encode.md R150). -/
def bodyAWr (dev : Byte) (addr : Half) (vals : List Half) : List Byte :=
  [dev, BitVec.ofNat 8 ((2 * vals.length + 3) % 256), 0x12, lo8 addr, hi8 addr] ++ le16s vals

/-- Bytes 2 to 7 of an A-RD frame (42_frame_encode.md R152). -/
def bodyARd (c : Config) (dev : Byte) (addr : Half) : List Byte :=
  [dev, c.aReadLen, 0x11, lo8 addr, hi8 addr, 0x0C]

/-- The Variant B identifier (30_encoding.md R99). -/
def ident (write : Bool) (addr : Half) : BitVec 32 :=
  BitVec.ofNat 32 ((bit write * 0x04000000 + addr.toNat * 16384 + 0x3FFF) % 2 ^ 32)

/-- `U[2..18)` (42_frame_encode.md R153). -/
def coreB (write : Bool) (addr : Half) (window : List Byte) (dataLen : Byte) : List Byte :=
  le32 (ident write addr) ++ window ++ [dataLen] ++ [0x00, 0x01, 0x00]

/-- The unstuffed frame `U` around its core (30_encoding.md R96, 42_frame_encode.md R153). -/
def unstuffedB (core : List Byte) : List Byte := [0xAA, 0xAA] ++ core ++ [sum8 core] ++ [0x55, 0x55]

/-- The wire frame `W` of an unstuffed frame (30_encoding.md R101, 42_frame_encode.md R153). -/
def wireB (u : List Byte) : List Byte := [0xAA, 0xAA] ++ stuff (slice u 2 19) ++ [0x55, 0x55]

/-- The payload window of a write (30_encoding.md R97). -/
def writeWindow (vals : List Half) : List Byte := le16s vals ++ List.replicate (8 - 2 * vals.length) 0x00

/-- The first window byte of a read in the CountByte form, `2 * c` (42_frame_encode.md R156). The rule gives `c` as 4
or 2: for the other counts below 128 its pseudocode is taken as it is written, and from 128 on, where `2 * c` is
no byte, the byte is a free value (DESIGN CHOICE, log 31, safe for the commands). -/
def countByteOf (c : Byte) : Byte := if c.toNat < 128 then BitVec.ofNat 8 (2 * c.toNat) else Config.freeCountByte c

/-- The payload window of a read (30_encoding.md R98; a count other than 4 or 2: log 31). -/
def readWindow (f : BReadForm) (c : Byte) : List Byte :=
  match f with
  | .empty => List.replicate 8 0x00
  | .countByte => countByteOf c :: List.replicate 7 0x00

/-- `dataLen` of a read (30_encoding.md R98). -/
def readDataLen (f : BReadForm) : Byte :=
  match f with
  | .empty => 0
  | .countByte => 1

/-- Build a frame: the accumulator runs over the checksum range, TXBUF takes the frame (10_state.md R29,
42_frame_encode.md). -/
def State.build (range frame : List Byte) (s : State) : State := (s.cksumRun range).putTx frame

/-- `B_BUILD` (42_frame_encode.md R153). -/
def State.buildB (write : Bool) (addr : Half) (window : List Byte) (dataLen : Byte) (s : State) :
    Ran (List Byte) :=
  .done (wireB (unstuffedB (coreB write addr window dataLen)))
    (s.build (coreB write addr window dataLen) (wireB (unstuffedB (coreB write addr window dataLen))))

/-- ENC.A.WR as the sequencer uses it (42_frame_encode.md R150). -/
def State.encAWr (dev : Byte) (addr : Half) (vals : List Half) (s : State) : Ran (List Byte) :=
  if 6 < vals.length then .raised .badCount s
  else .done (frameA (bodyAWr dev addr vals)) (s.build (bodyAWr dev addr vals) (frameA (bodyAWr dev addr vals)))

/-- ENC.A.RD as the sequencer uses it (42_frame_encode.md R152). -/
def State.encARd (dev : Byte) (addr : Half) (s : State) : Ran (List Byte) :=
  .done (frameA (bodyARd s.cfg dev addr)) (s.build (bodyARd s.cfg dev addr) (frameA (bodyARd s.cfg dev addr)))

/-- ENC.B.WR as the sequencer uses it (42_frame_encode.md R154). -/
def State.encBWr (addr : Half) (vals : List Half) (s : State) : Ran (List Byte) :=
  if 4 < vals.length then .raised .badCount s
  else s.buildB true addr (writeWindow vals) (BitVec.ofNat 8 (2 * vals.length))

/-- ENC.B.RD as the sequencer uses it (42_frame_encode.md R156). -/
def State.encBRd (addr : Half) (c : Byte) (s : State) : Ran (List Byte) :=
  s.buildB false addr (readWindow s.cfg.bReadForm c) (readDataLen s.cfg.bReadForm)

/-- ENC.A.WR (42_frame_encode.md R150). -/
def execEncAWr (dev : Byte) (addr : Half) (vals : List Half) (s : State) : Host.Outcome State Fault Refusal :=
  .next ((s.encAWr dev addr vals).settle .bytes)

/-- ENC.A.RD (42_frame_encode.md R152). -/
def execEncARd (dev : Byte) (addr : Half) (s : State) : Host.Outcome State Fault Refusal :=
  .next ((s.encARd dev addr).settle .bytes)

/-- ENC.B.WR (42_frame_encode.md R154). -/
def execEncBWr (addr : Half) (vals : List Half) (s : State) : Host.Outcome State Fault Refusal :=
  .next ((s.encBWr addr vals).settle .bytes)

/-- ENC.B.RD (42_frame_encode.md R156). -/
def execEncBRd (addr : Half) (c : Byte) (s : State) : Host.Outcome State Fault Refusal :=
  .next ((s.encBRd addr c).settle .bytes)

end Sys2Proof.Machine
end

