-- ==== Sys2Proof/Machine/RegMap.lean ====
section
/-! DEFINITION. The operation LOOKUP (41_regmap.md R142). -/

namespace Sys2Proof.Machine

/-- LOOKUP as the sequencer uses it: ADDR and CLS from the entry, or UnknownRegister with both unchanged
(41_regmap.md R142). -/
def State.lookup (name : Byte) (s : State) : Ran RegEntry :=
  match findEntry name s.cfg.regmap with
  | some e => .done e { s with addr := e.base, cls := e.cls }
  | none => .raised .unknownRegister s

/-- LOOKUP (41_regmap.md R142). -/
def execLookup (name : Byte) (s : State) : Host.Outcome State Fault Refusal :=
  .next ((s.lookup name).settle fun e => .entry e.base e.cls)

end Sys2Proof.Machine
end

