-- ==== Sys2Proof/Machine/RegisterAccess.lean ====
section
/-! DEFINITION. The host commands WRREG and RDREG up to the first BUILD (45_register_access.md R220, R221, R230, R236),
and a command of an illegal code (30_encoding.md R110). The exchanges are the sequencer's. -/

namespace Sys2Proof.Machine

/-- The first exchange begins: `nsb`, `sb <- 0 ; seq <- BUILD` (45_register_access.md R223, R230, R236). -/
def State.beginExchanges (s : State) : State :=
  { s with nsb := exchangeCount s.cfg.variant s.count.toNat, sb := 0, seq := .build }

/-- The checks of an accepted WRREG or RDREG: the count, then the name (45_register_access.md R221 steps 3
and 4, 60_exceptions.md R295). -/
def State.startTransaction (s : State) : State :=
  if countOk s.count then
    match s.lookup s.name with
    | .done _ t => t.beginExchanges
    | .raised c t => t.raise c
  else s.raise .badCount

/-- A WRREG or RDREG at the command port: refused while BUSY, else accepted (60_exceptions.md R287,
45_register_access.md R221). -/
def State.registerCommand (c : Command) (s : State) : State :=
  if s.busy then s.refuseBusy else (s.accept c).startTransaction

/-- A command of any other code: refused while BUSY, else accepted and ended at once (60_exceptions.md R286,
R287). -/
def State.illegalCommand (c : Command) (s : State) : State :=
  if s.busy then s.refuseBusy else (s.accept c).raise .illegalCommand

/-- WRREG (45_register_access.md R230). -/
def execWrreg (name dev : Byte) (count : BitVec 4) (values : Six Half) (s : State) :
    Host.Outcome State Fault Refusal :=
  .next (s.registerCommand ⟨opWrreg, name, dev, count, values⟩)

/-- RDREG (45_register_access.md R236). -/
def execRdreg (name dev : Byte) (count : BitVec 4) (values : Six Half) (s : State) :
    Host.Outcome State Fault Refusal :=
  .next (s.registerCommand ⟨opRdreg, name, dev, count, values⟩)

end Sys2Proof.Machine
end

