-- ==== Sys2Proof/Machine/Transport.lean ====
section
/-! DEFINITION. The transport primitives SEND and RECV and one attempt of WAITRSP (46_transport_wait.md R260 to
R268). -/

namespace Sys2Proof.Machine

/-- SEND as the sequencer uses it (46_transport_wait.md R260): the whole frame in one call. -/
def State.sendFrame (b : List Byte) (s : State) : Ran Unit :=
  match s.sendAnswer with
  | .ok => .done () (s.afterSendAnswer.emit (.sent b .ok))
  | .failure => .raised .transportError (s.afterSendAnswer.emit (.sent b .failure))

/-- The state after one receive attempt: RXBUF emptied, then what the answer brings (46_transport_wait.md R261,
R263). -/
def State.afterReceive (max : Nat) (s : State) : State :=
  { s.afterRecvAnswer with
    rxbuf := answerBytes (s.recvAnswer max)
    outs := s.outs ++ [.received (s.recvAnswer max)] }

/-- How one attempt of a wait ends. -/
inductive Attempt
  /-- A non-empty response, also in RXBUF. -/
  | response (s : State)
  /-- No response yet, and another attempt is allowed. -/
  | again (s : State)
  | raised (c : Cause) (s : State)

/-- Whether `tries` attempts without a response exhaust the limit (46_transport_wait.md R266, R267; log 25). -/
def limitReached (l : RetryLimit) (tries : Nat) : Bool :=
  match l with
  | .unbounded => false
  | .bounded n => n ≤ tries

/-- An attempt that brought nothing: Timeout or an empty buffer (46_transport_wait.md R266 to R268). -/
def State.noResponse (s : State) : Attempt :=
  match s.cfg.waitMode with
  | .deadline => .raised .timeoutError s
  | .poll =>
    if limitReached s.cfg.retryLimit (s.tries + 1) then .raised .timeoutError { s with tries := s.tries + 1 }
    else .again { s with tries := s.tries + 1 }

/-- One receive attempt of a wait, with `max = RX_CAP` (46_transport_wait.md R261, R266). -/
def State.attempt (s : State) : Attempt :=
  match s.recvAnswer s.cfg.rxCap with
  | .failure => .raised .transportError (s.afterReceive s.cfg.rxCap)
  | .timeout => (s.afterReceive s.cfg.rxCap).noResponse
  | .bytes [] => (s.afterReceive s.cfg.rxCap).noResponse
  | .bytes (_ :: _) => .response (s.afterReceive s.cfg.rxCap)

/-- SEND (46_transport_wait.md R260). -/
def execSend (b : List Byte) (s : State) : Host.Outcome State Fault Refusal :=
  .next ((s.sendFrame b).settle fun _ => .none)

/-- RECV (46_transport_wait.md R261). The time limit is in no value (R271, log 21). -/
def execRecv (max _t : Half) (s : State) : Host.Outcome State Fault Refusal :=
  .next { s.afterReceive max.toNat with res := .answer (s.recvAnswer max.toNat) }

end Sys2Proof.Machine
end

