-- ==== Sys2Proof/Machine/Sequencer.lean ====
section
/-! DEFINITION. The sequencer: one transition of 45_register_access.md R245 per step, and the operation WAITRSP
(46_transport_wait.md R266), each of whose receive attempts is a step (93_implementation_defined.md U3; log 5). -/

namespace Sys2Proof.Machine

/-- The ENC operation of the exchange in progress (45_register_access.md R226, R227, R230, R236). -/
def State.encodeRequest (s : State) : Ran (List Byte) :=
  if s.op = opRdreg then
    match s.cfg.variant with
    | .A => s.encARd s.devid s.exchangeAddr
    | .B => s.encBRd s.exchangeAddr s.requestedValues
  else
    match s.cfg.variant with
    | .A => s.encAWr s.devid s.exchangeAddr s.suppliedValues
    | .B => s.encBWr s.exchangeAddr s.subBlockValues

/-- BUILD: the request frame is built (45_register_access.md R245). -/
def State.stepBuild (s : State) : State :=
  match s.encodeRequest with
  | .done _ t => { t with seq := .send }
  | .raised c t => t.raise c

/-- SEND: the frame is handed to the transport, once (45_register_access.md R225, R245;
46_transport_wait.md R265). -/
def State.stepSend (s : State) : State :=
  match s.sendFrame s.txbuf with
  | .done _ t => { t with tries := 0, seq := .wait }
  | .raised c t => t.raise c

/-- Whether another exchange follows: `sb + 1 < nsb` (45_register_access.md R245). -/
def State.moreExchanges (s : State) : Bool := s.sb.toNat + 1 < s.nsb.toNat

/-- The next exchange begins: `sb <- 1 ; seq <- BUILD` (45_register_access.md R230, R236, R245). -/
def State.nextExchange (s : State) : State := { s with sb := 1, seq := .build }

/-- What follows a response: DECODE for a read; for a write the response is discarded and the next exchange or
completion follows (45_register_access.md R227, R245). Outside a transaction it ends a WAITRSP that was issued
directly (log 6). -/
def State.onResponse (s : State) : State :=
  if s.busy then
    if s.op = opRdreg then { s with seq := .decode }
    else if s.moreExchanges then s.nextExchange
    else s.complete
  else { s with seq := .idle, res := .bytes s.rxbuf }

/-- WAIT: one receive attempt (45_register_access.md R245, 46_transport_wait.md R266). -/
def State.stepWait (s : State) : State :=
  match s.attempt with
  | .response t => t.onResponse
  | .again t => t
  | .raised c t => t.raise c

/-- The fields of a Variant B response go to STG: four of sub-block 1, the first two of sub-block 2
(45_register_access.md R236, R238). -/
def stageB (sb : BitVec 1) (f : Four Half) (g : Six Half) : Six Half :=
  if sb = 0 then ⟨f.f0, f.f1, f.f2, f.f3, g.v4, g.v5⟩ else ⟨g.v0, g.v1, g.v2, g.v3, f.f0, f.f1⟩

/-- `RV[k] <- SANITIZE(CLS, STG[k])` for `k < c`; the other registers keep what they held
(45_register_access.md R236, R239). A sanitised value fits 17 bits (10_state.md R23). -/
def sanitizeRv (cls : RegClass) (c : Nat) (stg : Six Half) (rv : Six (BitVec 17)) : Six (BitVec 17) :=
  ⟨if 0 < c then BitVec.ofInt 17 (sanitize cls stg.v0) else rv.v0,
   if 1 < c then BitVec.ofInt 17 (sanitize cls stg.v1) else rv.v1,
   if 2 < c then BitVec.ofInt 17 (sanitize cls stg.v2) else rv.v2,
   if 3 < c then BitVec.ofInt 17 (sanitize cls stg.v3) else rv.v3,
   if 4 < c then BitVec.ofInt 17 (sanitize cls stg.v4) else rv.v4,
   if 5 < c then BitVec.ofInt 17 (sanitize cls stg.v5) else rv.v5⟩

/-- Commit: RV, RCOUNT and RVALID together (45_register_access.md R240). -/
def State.commit (s : State) : State :=
  { s with
    rv := sanitizeRv s.cls s.count.toNat s.stg s.rv
    rcount := BitVec.ofNat 3 s.count.toNat
    rvalid := true }

/-- What follows a decoded response: the next exchange, or commit and completion (45_register_access.md R245). -/
def State.onDecoded (s : State) : State := if s.moreExchanges then s.nextExchange else s.commit.complete

/-- DECODE (45_register_access.md R226, R236, R245). -/
def State.stepDecode (s : State) : State :=
  match s.cfg.variant with
  | .A =>
    match s.decA s.rxbuf with
    | .done f t => State.onDecoded { t with stg := f }
    | .raised c t => t.raise c
  | .B =>
    match s.decB s.rxbuf with
    | .done f t => State.onDecoded { t with stg := stageB t.sb f t.stg }
    | .raised c t => t.raise c

/-- One transition of the sequencer; in IDLE it waits for a command (45_register_access.md R245). -/
def State.advance (s : State) : State :=
  match s.seq with
  | .idle => s
  | .build => s.stepBuild
  | .send => s.stepSend
  | .wait => s.stepWait
  | .decode => s.stepDecode

/-- WAITRSP (46_transport_wait.md R266): `tries <- 0`, and the first attempt; the phase stays WAIT while
another attempt is allowed, and each following step makes one (log 5). -/
def execWaitrsp (s : State) : Host.Outcome State Fault Refusal :=
  .next (State.stepWait { s with tries := 0, seq := .wait })

end Sys2Proof.Machine
end

