-- ==== Sys2Proof/Machine/Wire.lean ====
section
/-! DEFINITION. The four wire formats A-WR, A-RD, B-WR, B-RD (30_encoding.md R112): each row cites the ENC rule that
builds the frame, and that rule, on the fields the frame carries, is its meaning. The bytes the rule computes (length,
identifier constant, extension, checksum, delimiters) are computed by it, not copied (DESIGN CHOICE, log 8, safe). -/

namespace Sys2Proof.Machine

/-- The address of a Variant B request below 4096: `id[25:14]` (30_encoding.md R99, R104). -/
def frameAddr (f : BFrame) : Half := BitVec.ofNat 16 (f.id.toNat / 16384 % 4096)

/-- The values of a Variant B write: `dataLen` counts their bytes (30_encoding.md R97). -/
def frameVals (f : BFrame) : List Half :=
  (List.range (f.dataLen.toNat / 2)).map fun k => fieldAt f.window (2 * k)

/-- The count a Variant B read carries in the CountByte form, half its first window byte
(30_encoding.md R98). -/
def frameCount (f : BFrame) : Byte := BitVec.ofNat 8 ((f.window.getD 0 0).toNat / 2)

/-- A-WR: what ENC.A.WR does with the frame's device, address and values (42_frame_encode.md R150). -/
def execFrameAWr (dev : Byte) (addr : Half) (vals : List Half) (s : State) : Host.Outcome State Fault Refusal :=
  .next ((s.encAWr dev addr vals).settle .bytes)

/-- A-RD: what ENC.A.RD does with the frame's device and address (42_frame_encode.md R152). -/
def execFrameARd (dev : Byte) (addr : Half) (s : State) : Host.Outcome State Fault Refusal :=
  .next ((s.encARd dev addr).settle .bytes)

/-- B-WR: what ENC.B.WR does with the frame's address and values (42_frame_encode.md R154). -/
def execFrameBWr (f : BFrame) (s : State) : Host.Outcome State Fault Refusal :=
  .next ((s.encBWr (frameAddr f) (frameVals f)).settle .bytes)

/-- B-RD: what ENC.B.RD does with the frame's address and count (42_frame_encode.md R156). -/
def execFrameBRd (f : BFrame) (s : State) : Host.Outcome State Fault Refusal :=
  .next ((s.encBRd (frameAddr f) (frameCount f)).settle .bytes)

end Sys2Proof.Machine
end

