-- ==== Sys2Proof/Machine/Dispatch.lean ====
section
/-! DEFINITION. The meaning of every operation of spec/opcode_table.json, one arm a row. -/

namespace Sys2Proof.Machine

def exec (i : Instr) (s : State) : Host.Outcome State Fault Refusal :=
  match i with
  | .wrreg name dev count values => Sys2Proof.Machine.execWrreg name dev count values s
  | .rdreg name dev count values => Sys2Proof.Machine.execRdreg name dev count values s
  | .reset => Sys2Proof.Machine.execReset s
  | .lookup name => Sys2Proof.Machine.execLookup name s
  | .cksum b => Sys2Proof.Machine.execCksum b s
  | .encAWr dev addr vals => Sys2Proof.Machine.execEncAWr dev addr vals s
  | .encARd dev addr => Sys2Proof.Machine.execEncARd dev addr s
  | .encBWr addr vals => Sys2Proof.Machine.execEncBWr addr vals s
  | .encBRd addr c => Sys2Proof.Machine.execEncBRd addr c s
  | .stuff b => Sys2Proof.Machine.execStuff b s
  | .unstuff b => Sys2Proof.Machine.execUnstuff b s
  | .decA raw => Sys2Proof.Machine.execDecA raw s
  | .decB raw => Sys2Proof.Machine.execDecB raw s
  | .sanClamp u => Sys2Proof.Machine.execSanClamp u s
  | .sanSigned u => Sys2Proof.Machine.execSanSigned u s
  | .send b => Sys2Proof.Machine.execSend b s
  | .recv max t => Sys2Proof.Machine.execRecv max t s
  | .waitrsp => Sys2Proof.Machine.execWaitrsp s
  | .frameAWr dev _ addr vals _ => Sys2Proof.Machine.execFrameAWr dev addr vals s
  | .frameARd dev _ addr _ _ => Sys2Proof.Machine.execFrameARd dev addr s
  | .frameBWr f => Sys2Proof.Machine.execFrameBWr f s
  | .frameBRd f => Sys2Proof.Machine.execFrameBRd f s

end Sys2Proof.Machine
end

