-- ==== Sys2Proof/Machine/HostPort.lean ====
section
/-! DEFINITION. Where a step's work comes from: the command port (30_encoding.md R108, R110), the host's register indices
(10_state.md R34), operations issued directly (log 6) and, when the outside world presents nothing, the sequencer. -/

namespace Sys2Proof.Machine

/-- A command record on the command port: the host command of its code, or an illegal command
(30_encoding.md R108 to R110). -/
def present (c : Command) (s : State) : Host.Outcome State Fault Refusal :=
  match decodeCommand c with
  | some i => exec i s
  | none => .next (s.illegalCommand c)

/-- Whether an operation is a host command (30_encoding.md R109). -/
def isHostCommand (i : Instr) : Bool :=
  match i with
  | .wrreg _ _ _ _ => true
  | .rdreg _ _ _ _ => true
  | .reset => true
  | .lookup _ | .cksum _ | .encAWr _ _ _ | .encARd _ _ | .encBWr _ _ | .encBRd _ _ | .stuff _ | .unstuff _
  | .decA _ | .decB _ | .sanClamp _ | .sanSigned _ | .send _ | .recv _ _ | .waitrsp
  | .frameAWr _ _ _ _ _ | .frameARd _ _ _ _ _ | .frameBWr _ | .frameBRd _ => false

/-- An operation issued directly: while a transaction is in flight the sequencer owns the datapath and the issue is
refused like a command (DESIGN CHOICE, log 6, safe); a host command makes its own check. Bytes behind the
operation are not looked at. -/
def issue (image : List Byte) (s : State) : Host.Outcome State Fault Refusal :=
  match decode image with
  | .ok (i, _) => if s.busy && !isHostCommand i then .next s.refuseBusy else exec i s
  | .error e => .refused (.undecodable e)

/-- The command made of H0 to H9 when `v` is written to H0 (10_state.md R34). -/
def State.commandOf (v : Nat) (s : State) : Command := ⟨BitVec.ofNat 8 v, s.name, s.devid, s.count, s.wv⟩

/-- A write of H1 to H9 while the block is idle; a register takes the low bits of the value (10_state.md R34,
log 14). -/
def State.writeOperand (h v : Nat) (s : State) : State :=
  match h with
  | 1 => { s with name := BitVec.ofNat 8 v }
  | 2 => { s with devid := BitVec.ofNat 8 v }
  | 3 => { s with count := BitVec.ofNat 4 v }
  | _ => { s with wv := s.wv.set (h - 4) (BitVec.ofNat 16 v) }

/-- A host write of a register index (10_state.md R34): H0 presents a command, H1 to H9 are ignored while BUSY,
H10 to H18 cannot be written (log 15). -/
def hostWrite (h v : Nat) (s : State) : Host.Outcome State Fault Refusal :=
  if h = 0 then present (s.commandOf v) s
  else if h ≤ 9 then (if s.busy then .next s else .next (s.writeOperand h v))
  else if h ≤ 18 then .fault (.writeOfReadOnly h)
  else .fault (.noSuchIndex h)

/-- `RV[i]` as a host may read it: only while RVALID = 1 and `i < RCOUNT` (10_state.md R23,
93_implementation_defined.md U6). -/
def State.readRv (i : Nat) (s : State) : Option Int :=
  if s.rvalid && i < s.rcount.toNat then some (s.rv.get i).toInt else none

/-- A host read of a register index (10_state.md R34): the value goes out on the trace. -/
def hostRead (h : Nat) (s : State) : Host.Outcome State Fault Refusal :=
  if h ≤ 9 then .fault (.readOfWriteOnly h)
  else if h = 10 then .next (s.emit (.readData h s.statusView))
  else if h = 11 then .next (s.emit (.readData h s.faultView))
  else if h = 12 then .next (s.emit (.readData h s.countView))
  else if h ≤ 18 then
    match s.readRv (h - 13) with
    | some v => .next (s.emit (.readData h v))
    | none => .fault (.readNoValue (h - 13))
  else .fault (.noSuchIndex h)

/-- What one entry of `inputs` does (log 2). -/
def take (i : Input) (s : State) : Host.Outcome State Fault Refusal :=
  match i with
  | .idle => .next s.advance
  | .command c => present c s
  | .issue image => issue image s
  | .hostRead h => hostRead h s
  | .hostWrite h v => hostWrite h v s
  | .powerOn => .next s.resetRegisters

/-- The command record of an image that begins with a host code; a record that does not decode loads zeros. -/
def recordOf (image : List Byte) : Command :=
  match image with
  | [] => default
  | op :: rest =>
    match decodeRecord op rest with
    | .ok (c, _) => c
    | .error _ => ⟨op, 0, 0, 0, Six.all 0⟩

/-- The input that brings an image to its port: a host code to the command port, everything else to the direct
issue (30_encoding.md R109). -/
def fetchInput (image : List Byte) : Input :=
  if isHostCode (image.getD 0 0) then .command (recordOf image) else .issue image

end Sys2Proof.Machine
end

