-- ==== Sys2Proof/Machine/Step.lean ====
section
/-! DEFINITION. One step of the machine: the next entry of `inputs`, or the sequencer's next transition when nothing is
presented (00_scope.md R6, 45_register_access.md R245; log 2). -/

namespace Sys2Proof.Machine

/-- One step. -/
def step (s : State) : Host.Outcome State Fault Refusal :=
  match s.inputs with
  | [] => take .idle s
  | i :: rest => take i { s with inputs := rest }

/-- The state with the operation of a table word presented next. There is no program counter and no stored
program (10_state.md R28): the next operation is what the outside world presents first (log 2). -/
def State.withFetchWord (s : State) (nbits w : Nat) : State :=
  { s with inputs := fetchInput (tableImage nbits w) :: s.inputs }

end Sys2Proof.Machine
end

