-- ==== Sys2Proof/Safety.lean ====
section
/-! DEFINITION. The terms the statements use: the invariant of the state, the state fault entry leaves, the escaped form
of a byte sequence, runs of several steps, the responses a peer can give and what the decoder takes from them, the inputs
that are a reset. -/

namespace Sys2Proof.Machine

/-- What the rules of 10_state.md, 45_register_access.md and 60_exceptions.md promise of every state between two
steps. -/
structure State.Inv (s : State) : Prop where
  /-- TXBUF never passes its capacity (10_state.md R27). -/
  txCapacity : s.txbuf.length ≤ 38
  /-- RXBUF never passes its capacity (10_state.md R27). -/
  rxCapacity : s.rxbuf.length ≤ s.cfg.rxCap
  /-- BUSY and DONE are never both 1 (10_state.md R24). -/
  notBusyDone : ¬(s.busy = true ∧ s.done = true)
  /-- ERR = 1 implies DONE = 1 (10_state.md R24). -/
  errDone : s.err = true → s.done = true
  /-- FAULT holds a code exactly when ERR is 1 (10_state.md R25, 60_exceptions.md R290). -/
  errFault : s.err = true ↔ s.fault ≠ 0
  /-- Codes 8 to 15 are never stored (60_exceptions.md R280). -/
  faultCode : s.fault.toNat ≤ 7
  /-- FINFO is 0 without a fault (10_state.md R25). -/
  finfoClear : s.err = false → s.finfo = 0
  /-- RCOUNT is 0 to 6 (10_state.md R23). -/
  rcountRange : s.rcount.toNat ≤ 6
  /-- RCOUNT is 0 while RVALID is 0 (10_state.md R23). -/
  rcountClear : s.rvalid = false → s.rcount = 0
  /-- The results lie in -32767 to 32768 (10_state.md R23). -/
  rvRange : ∀ i, i < s.rcount.toNat → -32767 ≤ (s.rv.get i).toInt ∧ (s.rv.get i).toInt ≤ 32768
  /-- `nsb` is 1 or 2 (10_state.md R26). -/
  nsbRange : s.nsb = 1 ∨ s.nsb = 2
  /-- A transaction in flight is not in IDLE (10_state.md R28). -/
  busyPhase : s.busy = true → s.seq ≠ .idle
  /-- BUILD, SEND and DECODE are phases of a transaction (45_register_access.md R245). -/
  phaseBusy : s.seq = .build ∨ s.seq = .send ∨ s.seq = .decode → s.busy = true
  /-- Only a read is decoded (45_register_access.md R227, R245). -/
  decodeRead : s.seq = .decode → s.op = opRdreg
  /-- A transaction is a WRREG or an RDREG (10_state.md R24). -/
  busyOp : s.busy = true → s.op = opWrreg ∨ s.op = opRdreg
  /-- Its count is 1 to 6 (45_register_access.md R220). -/
  busyCount : s.busy = true → 1 ≤ s.count.toNat ∧ s.count.toNat ≤ 6
  /-- It has the number of exchanges of 45_register_access.md R223. -/
  busyExchanges : s.busy = true → s.nsb = exchangeCount s.cfg.variant s.count.toNat
  /-- The second exchange exists only where there are two (45_register_access.md R223). -/
  busySecond : s.busy = true → s.sb = 1 → s.nsb = 2
  /-- No result is valid while a transaction is in flight (10_state.md R23, 45_register_access.md R240). -/
  busyInvalid : s.busy = true → s.rvalid = false

/-- The state fault entry leaves (60_exceptions.md R290): FAULT, FINFO, ERR, DONE, BUSY, seq and one completion
record; everything else as it was. -/
def faulted (code : BitVec 4) (finfo : BitVec 2) (s : State) : State :=
  { s with
    fault := code
    finfo := finfo
    err := true
    done := true
    busy := false
    seq := .idle
    outs := s.outs ++ [.completion { ok := false, fault := code, finfo := finfo, rcount := 0, rv := [] }] }

/-- The state a completion without fault leaves (45_register_access.md R246). -/
def completed (s : State) : State :=
  { s with
    busy := false
    done := true
    err := false
    fault := 0
    finfo := 0
    seq := .idle
    outs := s.outs ++
      [.completion { ok := true, fault := 0, finfo := 0, rcount := s.rcount, rv := s.rv.toList.take s.rcount.toNat }] }

/-- The state acceptance of a command leaves (45_register_access.md R221 step 2). -/
def accepted (c : Command) (s : State) : State :=
  { s with
    op := c.op
    name := c.name
    devid := c.dev
    count := c.count
    wv := c.values
    busy := true
    done := false
    err := false
    fault := 0
    finfo := 0
    rvalid := false
    rcount := 0
    sb := 0
    seq := .idle }

/-- Whether a byte sequence parses, left to right, into single bytes that are not reserved and pairs of the
escape byte and a reserved byte (44_byte_stuffer.md R207). -/
def parsesEscaped : List Byte → Bool
  | [] => true
  | [x] => !isReserved x
  | x :: y :: rest =>
    if x = esc then isReserved y && parsesEscaped rest else !isReserved x && parsesEscaped (y :: rest)

/-- `k` steps of the machine end in `t`. -/
def runsTo (k : Nat) (s t : State) : Prop := Host.Core.run Sys2Proof.core k s = .next t

/-- A stuffed Variant B response that carries four values at `addr`, as the reference peer of 95_test_vectors.md
section 4 gives it, behind bytes that are no start marker. -/
def peerResponseB (garbage : List Byte) (addr : Half) (v0 v1 v2 v3 : Half) : List Byte :=
  garbage ++ wireB (unstuffedB (coreB false addr (le16s [v0, v1, v2, v3]) 8))

/-- The same response as a peer that escapes nothing gives it, or one whose bytes hold no reserved value
(43_frame_decode.md R179). -/
def plainResponseB (garbage : List Byte) (addr : Half) (v0 v1 v2 v3 : Half) : List Byte :=
  garbage ++ unstuffedB (coreB false addr (le16s [v0, v1, v2, v3]) 8)

/-- `K` of 43_frame_decode.md R175: the bytes from the first AA on, the first two as they are and the rest unstuffed
when RX_UNSTUFF is on. -/
def bytesFromMarker (c : Config) (raw : List Byte) : List Byte :=
  let i : Nat := raw.findIdx (· == 0xAA)
  if c.rxUnstuff then (raw.drop i).take 2 ++ (unstuff (raw.drop (i + 2))).1 else raw.drop i

/-- What finding the first AA writes: START, and with RX_UNSTUFF the unstuffer's flag (43_frame_decode.md R175). -/
def markerFound (raw : List Byte) (s : State) : State :=
  let i : Nat := raw.findIdx (· == 0xAA)
  { s with start := i, escp := if s.cfg.rxUnstuff then (unstuff (raw.drop (i + 2))).2 else s.escp }

/-- The value a read returns for a raw field, class by class (43_frame_decode.md R184, R185, R186). -/
def returnedValue (c : RegClass) (u : Half) : Int :=
  match c with
  | .magnitude => if u.toNat ≤ 6000 then u.toNat else 0
  | .signed => if u.toNat ≤ 32768 then u.toNat else (u.toNat : Int) - 65536

/-- Whether an input is a reset: power-on, or a RESET on the command port, through H0 or issued directly
(70_reset_and_hazards.md R320, 10_state.md R34; log 6). -/
def isResetInput : Input → Bool
  | .idle => false
  | .command c => c.op == 0x0F
  | .issue image => image.head? == some 0x0F
  | .hostRead _ => false
  | .hostWrite h v => h == 0 && BitVec.ofNat 8 v == 0x0F
  | .powerOn => true

/-- Whether the input the next step takes is a reset. -/
def resetPresented (s : State) : Bool :=
  match s.inputs with
  | [] => false
  | i :: _ => isResetInput i

/-- The outputs that are frames handed to the transport, oldest first. -/
def sentFrames : List Output → List (List Byte)
  | [] => []
  | .sent f _ :: rest => f :: sentFrames rest
  | _ :: rest => sentFrames rest

/-- How many receive attempts the outputs hold. -/
def receiveCount : List Output → Nat
  | [] => 0
  | .received _ :: rest => receiveCount rest + 1
  | _ :: rest => receiveCount rest

end Sys2Proof.Machine
end

