-- ==== Sys2Proof/Certificates/Slice0/Obligations.lean ====
section
/-! DEFINITION. The statements about the model. `res`, the latch of a directly issued operation, and `outs`, the trace, are
the model's own fields (log 6, log 22). -/

open Sys2Proof Sys2Proof.Machine

/-! ### The step, the encoding -/

/-- An operation issued directly while no transaction is in flight, and a host command on the command port, are
run by the step exactly as `exec` says, with the input consumed (30_encoding.md R108, R109). How an operation is
presented is the model's choice (log 2, log 6). -/
def Obligations.StepRunsThePresentedOperation : Prop :=
  (∀ (s : State) image rest i r, s.inputs = .issue image :: rest → decode image = .ok (i, r) →
    wellFormed i = true → s.busy = false → step s = exec i { s with inputs := rest }) ∧
  (∀ (s : State) c rest i, s.inputs = .command c :: rest → decodeCommand c = some i →
    step s = exec i { s with inputs := rest })

/-- When nothing is presented the step is one transition of the sequencer, and in IDLE nothing happens
(45_register_access.md R245). One transition a step is the model's choice (log 2, log 5). -/
def Obligations.SequencerStepsWhenNothingIsPresented : Prop :=
  (∀ s : State, s.inputs = [] → step s = .next s.advance) ∧
  (∀ (s : State) rest, s.inputs = .idle :: rest → step s = .next (State.advance { s with inputs := rest })) ∧
  (∀ s : State, s.seq = .idle → s.advance = s)

/-- Frames of 95_test_vectors.md and operation codes of 30_encoding.md R109 decode to the operations they stand
for: V-EA3, V-EA10, V-EB7 (five escapes), V-EB22 (an escaped identifier byte), the table words of the codes 0F, 10 and
1E, and one A-RD table word. Which end of a longer table word comes first is the model's reading of the table
(log 9), and the operands behind a code (the name 0 behind 10) stand in the model's layout (log 7). -/
def Obligations.FramesOfTheSpecDecode : Prop :=
  decode [0xEB, 0x90, 0x01, 0x05, 0x12, 0xCE, 0x05, 0xE8, 0x03, 0xD6] =
    .ok (.frameAWr 1 5 1486 [1000] 0xD6, []) ∧
  decode [0xEB, 0x90, 0x01, 0x03, 0x11, 0x0A, 0x06, 0x0C, 0x31] = .ok (.frameARd 1 3 1546 0x0C 0x31, []) ∧
  decode [0xAA, 0xAA, 0xFF, 0xBF, 0x73, 0x05, 0xA5, 0xAA, 0x00, 0xA5, 0x55, 0x00, 0xA5, 0xA5, 0x00, 0xA5, 0xAA,
      0xA5, 0x55, 0x08, 0x00, 0x01, 0x00, 0xE2, 0x55, 0x55] =
    .ok (.frameBWr ⟨0x0573BFFF, [0xAA, 0x00, 0x55, 0x00, 0xA5, 0x00, 0xAA, 0x55], 8, [0x00, 0x01, 0x00], 0xE2,
      [0x55, 0x55]⟩, []) ∧
  decode [0xAA, 0xAA, 0xFF, 0x3F, 0xA5, 0xAA, 0x00, 0x00, 0x00, 0x00, 0x00, 0x00, 0x00, 0x00, 0x00, 0x00, 0x00,
      0x01, 0x00, 0xE9, 0x55, 0x55] =
    .ok (.frameBRd ⟨0x00AA3FFF, [0, 0, 0, 0, 0, 0, 0, 0], 0, [0x00, 0x01, 0x00], 0xE9, [0x55, 0x55]⟩, []) ∧
  decodeTableWord 8 0x0F = some .reset ∧
  decodeTableWord 8 0x10 = some (.lookup 0) ∧
  decodeTableWord 8 0x1E = some .waitrsp ∧
  decodeTableWord 40 0xEB90000011 = some (.frameARd 0 0 0 0 0)

/-- Decoding the bytes of a well-formed operation, whatever follows them, gives back the operation and what
follows, with every operand at every value the encoding admits. The layout behind an operation's code is the model's
choice (log 7); the wire frames are laid out as 30_encoding.md R92, R93, R96, R101 say. -/
def Obligations.DecodeInvertsEncode : Prop :=
  ∀ (i : Instr) (rest : List Byte), wellFormed i = true → decode (encode i ++ rest) = .ok (i, rest)

/-- The four wire rows: a well-formed frame that the configuration can send is built into TXBUF byte for byte,
its checksum byte is in ACC, and nothing else changes but the latch `res` (30_encoding.md R92, R93, R96, R101,
R112). R112 only points a row at its ENC rule: that running the row builds its frame is the model's choice
(log 8). -/
def Obligations.WireRowsBuildTheirFrame : Prop :=
  (∀ dev len addr vals ck (s : State), wellFormed (.frameAWr dev len addr vals ck) = true →
    exec (.frameAWr dev len addr vals ck) s =
      .next { s with
        txbuf := encode (.frameAWr dev len addr vals ck)
        acc := ck
        res := .bytes (encode (.frameAWr dev len addr vals ck)) }) ∧
  (∀ dev len addr respLen ck (s : State), wellFormed (.frameARd dev len addr respLen ck) = true →
    len = s.cfg.aReadLen →
    exec (.frameARd dev len addr respLen ck) s =
      .next { s with
        txbuf := encode (.frameARd dev len addr respLen ck)
        acc := ck
        res := .bytes (encode (.frameARd dev len addr respLen ck)) }) ∧
  (∀ f (s : State), wellFormed (.frameBWr f) = true →
    exec (.frameBWr f) s =
      .next { s with txbuf := encode (.frameBWr f), acc := f.ck, res := .bytes (encode (.frameBWr f)) }) ∧
  (∀ f (s : State), wellFormed (.frameBRd f) = true →
    (s.cfg.bReadForm = .empty ∧ f.dataLen = 0 ∨ s.cfg.bReadForm = .countByte ∧ f.dataLen = 1) →
    exec (.frameBRd f) s =
      .next { s with txbuf := encode (.frameBRd f), acc := f.ck, res := .bytes (encode (.frameBRd f)) })

/-- The four wire rows on every frame, well formed or not: the ENC rule the row cites, on the fields the frame
carries. That this is a wire row's meaning is the model's choice (log 8). -/
def Obligations.WireRowsRunTheirEncoder : Prop :=
  (∀ dev len addr vals ck s, exec (.frameAWr dev len addr vals ck) s = exec (.encAWr dev addr vals) s) ∧
  (∀ dev len addr respLen ck s, exec (.frameARd dev len addr respLen ck) s = exec (.encARd dev addr) s) ∧
  (∀ f s, exec (.frameBWr f) s = exec (.encBWr (frameAddr f) (frameVals f)) s) ∧
  (∀ f s, exec (.frameBRd f) s = exec (.encBRd (frameAddr f) (frameCount f)) s)

/-! ### Checksum, table, stuffer -/

/-- CKSUM, of code 11, leaves the sum of the bytes modulo 256 in ACC, answers it, and writes nothing else: no flag,
no fault, on any bytes (40_checksum.md R132). -/
def Obligations.ChecksumIsTheSumModulo256 : Prop :=
  ∀ (b : List Byte) (s : State),
    exec (.cksum b) s =
      .next { s with
        acc := BitVec.ofNat 8 ((b.map BitVec.toNat).sum % 256)
        res := .byte (BitVec.ofNat 8 ((b.map BitVec.toNat).sum % 256)) } ∧
    (encode (.cksum b)).head? = some 0x11

/-- The accumulator after a clear and the bytes in any order holds SUM8 of the bytes (40_checksum.md R131). -/
def Obligations.AccumulatorDoesNotDependOnTheOrder : Prop :=
  (∀ s : State, s.cksumClear = { s with acc := 0x00 }) ∧
  (∀ (s : State) x, s.cksumAdd x = { s with acc := BitVec.ofNat 8 ((s.acc.toNat + x.toNat) % 256) }) ∧
  (∀ (s : State) (b b' : List Byte), b.Perm b' →
    (b'.foldl (fun t x => State.cksumAdd x t) s.cksumClear).acc = sum8 b)

/-- LOOKUP writes ADDR and CLS of the entry with the name; for a name without entry it raises UnknownRegister and
writes neither, nor TXBUF, nor sends anything (41_regmap.md R142); the five listed names, codes and classes
(20_memory.md R75, 41_regmap.md R140, R141). That the fault of a LOOKUP issued directly makes the whole fault entry,
and with FINFO 0, is the model's choice (log 10, log 11). -/
def Obligations.LookupFindsTheEntryOrFaults : Prop :=
  (∀ name (s : State) e, s.cfg.regmap.find? (fun e => e.name == name) = some e →
    exec (.lookup name) s = .next { s with addr := e.base, cls := e.cls, res := .entry e.base e.cls }) ∧
  (∀ name (s : State), s.cfg.regmap.find? (fun e => e.name == name) = none →
    exec (.lookup name) s = .next (faulted 1 s.finfoNow s)) ∧
  (∀ s : State, s.cfg.regmap = Config.listedRegisters →
    exec (.lookup 0) s = .next { s with addr := 1486, cls := .magnitude, res := .entry 1486 .magnitude } ∧
    exec (.lookup 1) s = .next { s with addr := 1498, cls := .magnitude, res := .entry 1498 .magnitude } ∧
    exec (.lookup 2) s = .next { s with addr := 1522, cls := .magnitude, res := .entry 1522 .magnitude } ∧
    exec (.lookup 3) s = .next { s with addr := 1546, cls := .magnitude, res := .entry 1546 .magnitude } ∧
    exec (.lookup 4) s = .next { s with addr := 1582, cls := .signed, res := .entry 1582 .signed } ∧
    exec (.lookup 5) s = .next (faulted 1 s.finfoNow s)) ∧
  (∀ name, encode (.lookup name) = [0x10, name])

/-- STUFF puts A5 before each AA, 55 and A5 and changes nothing else; its output is longer by the number of
those bytes; only the latch `res` is written (44_byte_stuffer.md R201, R203). -/
def Obligations.StuffEscapesEachReservedByte : Prop :=
  ∀ (b : List Byte) (s : State),
    exec (.stuff b) s =
      .next { s with
        res := .bytes (b.flatMap fun x => if x ∈ [0xAA, 0x55, 0xA5] then [0xA5, x] else [x]) } ∧
    (stuff b).length = b.length + b.countP (fun x => x ∈ [0xAA, 0x55, 0xA5])

/-- UNSTUFF by the byte-serial machine with the flag ESCP computes the function of R205, and `dangling` is the
final ESCP; nothing else is written (44_byte_stuffer.md R205, R206). -/
def Obligations.SerialUnstufferComputesUnstuff : Prop :=
  (∀ (b : List Byte) (s : State),
    exec (.unstuff b) s =
      .next { s with escp := (unstuff b).2, res := .unstuffed (unstuff b).1 (unstuff b).2 } ∧
    unstuffSerial false b = unstuff b ∧ (encode (.unstuff b)).head? = some 0x17) ∧
  (∀ x, unstuffByte true x = (false, [x])) ∧
  unstuffByte false 0xA5 = (true, []) ∧
  (∀ x, x ≠ 0xA5 → unstuffByte false x = (false, [x])) ∧
  (∀ e x rest, unstuffSerial e (x :: rest) =
    ((unstuffByte e x).2 ++ (unstuffSerial (unstuffByte e x).1 rest).1,
      (unstuffSerial (unstuffByte e x).1 rest).2)) ∧
  (∀ e, unstuffSerial e [] = ([], e)) ∧
  unstuff [] = ([], false) ∧
  unstuff [0xA5] = ([], true) ∧
  (∀ y rest, unstuff (0xA5 :: y :: rest) = (y :: (unstuff rest).1, (unstuff rest).2)) ∧
  (∀ x rest, x ≠ 0xA5 → unstuff (x :: rest) = (x :: (unstuff rest).1, (unstuff rest).2))

/-- `unstuff(stuff(v)) == v` for every byte sequence, with no dangling escape; the converse holds exactly for what
STUFF produces (44_byte_stuffer.md R208). -/
def Obligations.UnstuffInvertsStuff : Prop :=
  (∀ b : List Byte, unstuff (stuff b) = (b, false)) ∧
  (∀ (b : List Byte) (s : State),
    exec (.unstuff (stuff b)) s = .next { s with escp := false, res := .unstuffed b false }) ∧
  (∀ c : List Byte, stuff (unstuff c).1 = c ↔ ∃ b, stuff b = c) ∧
  unstuff [0xA5, 0x00] = ([0x00], false) ∧ stuff [0x00] = [0x00]

/-- What STUFF produces parses, left to right, into bytes that are not reserved and pairs of A5 and a reserved
byte, and nothing else does; the stuffed region of every built Variant B frame is such
(44_byte_stuffer.md R207, 42_frame_encode.md R161). -/
def Obligations.StuffedRegionHasNoUnescapedReservedByte : Prop :=
  (∀ c : List Byte, parsesEscaped c = true ↔ ∃ b, stuff b = c) ∧
  (∀ w addr window d, window.length = 8 →
    ∃ region, wireB (unstuffedB (coreB w addr window d)) = [0xAA, 0xAA] ++ region ++ [0x55, 0x55] ∧
      parsesEscaped region = true)

/-! ### Frame encoder -/

/-- ENC.A.WR, of code 12: header, device, length 2n + 3, 12, address and values low byte first, and the sum of the bytes from
the device on; more than six values raise BadCount with TXBUF unchanged (42_frame_encode.md R150, 30_encoding.md
R92, 40_checksum.md R133). FINFO is 0 for an encoder used directly (60_exceptions.md R285); that its BadCount makes the
whole fault entry is the model's choice (log 10, log 11). -/
def Obligations.EncodeAWriteFrame : Prop :=
  ∀ (dev : Byte) (addr : Half) (vals : List Half) (s : State),
    let body : List Byte :=
      [dev, BitVec.ofNat 8 (2 * vals.length + 3), 0x12, addr.extractLsb' 0 8, addr.extractLsb' 8 8] ++
        vals.flatMap fun v => [v.extractLsb' 0 8, v.extractLsb' 8 8]
    let ck : Byte := BitVec.ofNat 8 (body.map BitVec.toNat).sum
    let frame : List Byte := [0xEB, 0x90] ++ body ++ [ck]
    (vals.length ≤ 6 →
      exec (.encAWr dev addr vals) s = .next { s with txbuf := frame, acc := ck, res := .bytes frame } ∧
      frame.length = 8 + 2 * vals.length) ∧
    (6 < vals.length → exec (.encAWr dev addr vals) s = .next (faulted 5 s.finfoNow s)) ∧
    (encode (.encAWr dev addr vals)).head? = some 0x12

/-- ENC.A.RD, of code 13: nine bytes, the length byte A_READ_LEN, 11, the address low byte first, 0C, and the sum of the bytes
from the device on (42_frame_encode.md R152, 30_encoding.md R93, 40_checksum.md R133). -/
def Obligations.EncodeAReadFrame : Prop :=
  ∀ (dev : Byte) (addr : Half) (s : State),
    let body : List Byte :=
      [dev, s.cfg.aReadLen, 0x11, addr.extractLsb' 0 8, addr.extractLsb' 8 8, 0x0C]
    let ck : Byte := BitVec.ofNat 8 (body.map BitVec.toNat).sum
    let frame : List Byte := [0xEB, 0x90] ++ body ++ [ck]
    exec (.encARd dev addr) s = .next { s with txbuf := frame, acc := ck, res := .bytes frame } ∧
    frame.length = 9 ∧ (encode (.encARd dev addr)).head? = some 0x13

/-- ENC.B.WR: identifier low byte first, the values zero-padded to eight bytes, 2n, 00 01 00 and their sum, the
seventeen bytes escaped between AA AA and 55 55; more than four values raise BadCount with TXBUF unchanged
(42_frame_encode.md R153, R154, 30_encoding.md R96, R97, R101, 40_checksum.md R134). FINFO is 0 for an encoder used
directly (60_exceptions.md R285); that its BadCount makes the whole fault entry is the model's choice (log 10,
log 11). -/
def Obligations.EncodeBWriteFrame : Prop :=
  ∀ (addr : Half) (vals : List Half) (s : State),
    let id : Nat := 0x04000000 + addr.toNat * 16384 + 0x3FFF
    let core : List Byte :=
      [BitVec.ofNat 8 id, BitVec.ofNat 8 (id / 256), BitVec.ofNat 8 (id / 65536), BitVec.ofNat 8 (id / 16777216)] ++
        (vals.flatMap fun v => [v.extractLsb' 0 8, v.extractLsb' 8 8]) ++
        List.replicate (8 - 2 * vals.length) 0x00 ++ [BitVec.ofNat 8 (2 * vals.length), 0x00, 0x01, 0x00]
    let ck : Byte := BitVec.ofNat 8 (core.map BitVec.toNat).sum
    let frame : List Byte :=
      [0xAA, 0xAA] ++ ((core ++ [ck]).flatMap fun x => if x ∈ [0xAA, 0x55, 0xA5] then [0xA5, x] else [x]) ++
        [0x55, 0x55]
    (vals.length ≤ 4 →
      exec (.encBWr addr vals) s = .next { s with txbuf := frame, acc := ck, res := .bytes frame }) ∧
    (4 < vals.length → exec (.encBWr addr vals) s = .next (faulted 5 s.finfoNow s))

/-- ENC.B.RD: the identifier without the write bit, and a window of zeros with dataLen 0 in the Empty form, twice
the count and dataLen 1 in the CountByte form (42_frame_encode.md R153, R156, 30_encoding.md R98). R156 gives the count
as 4 or 2; what other counts put into the window is the model's choice, a free value where twice the count is no byte
(log 31). -/
def Obligations.EncodeBReadFrame : Prop :=
  ∀ (addr : Half) (c : Byte) (s : State),
    let id : Nat := addr.toNat * 16384 + 0x3FFF
    let first : Byte := if c.toNat < 128 then 2 * c else Config.freeCountByte c
    let window : List Byte :=
      if s.cfg.bReadForm = .empty then [0, 0, 0, 0, 0, 0, 0, 0, 0] else [first, 0, 0, 0, 0, 0, 0, 0, 1]
    let core : List Byte :=
      [BitVec.ofNat 8 id, BitVec.ofNat 8 (id / 256), BitVec.ofNat 8 (id / 65536), BitVec.ofNat 8 (id / 16777216)] ++
        window ++ [0x00, 0x01, 0x00]
    let ck : Byte := BitVec.ofNat 8 (core.map BitVec.toNat).sum
    let frame : List Byte :=
      [0xAA, 0xAA] ++ ((core ++ [ck]).flatMap fun x => if x ∈ [0xAA, 0x55, 0xA5] then [0xA5, x] else [x]) ++
        [0x55, 0x55]
    exec (.encBRd addr c) s = .next { s with txbuf := frame, acc := ck, res := .bytes frame }

/-- The Variant B identifier: the sum never wraps, its low 14 bits are 3FFF, the bits above are the address plus
4096 for a write; below 4096 the fields separate; a write aliases the read of the address 4096 higher; its four
bytes, of which only `id2` can be reserved (30_encoding.md R99). -/
def Obligations.IdentifierFields : Prop :=
  ∀ (w : Bool) (addr : Half),
    let a : Nat := addr.toNat + if w then 4096 else 0
    (ident w addr).toNat = (if w then 0x04000000 else 0) + addr.toNat * 16384 + 0x3FFF ∧
    (ident w addr).toNat ≤ 0x43FFFFFF ∧
    (ident w addr).toNat % 16384 = 0x3FFF ∧
    (ident w addr).toNat / 16384 = a ∧
    (addr.toNat < 4096 →
      ((ident w addr).extractLsb' 14 12).toNat = addr.toNat ∧ (ident w addr).getLsbD 26 = w ∧
      (ident w addr).extractLsb' 27 5 = 0) ∧
    (addr.toNat + 4096 ≤ 65535 → ident true addr = ident false (addr + 4096)) ∧
    le32 (ident w addr) =
      [0xFF, BitVec.ofNat 8 (0x3F + 64 * (a % 4)), BitVec.ofNat 8 (a / 4), BitVec.ofNat 8 (a / 1024)] ∧
    BitVec.ofNat 8 (0x3F + 64 * (a % 4)) ∈ ([0x3F, 0x7F, 0xBF, 0xFF] : List Byte) ∧
    a / 1024 ≤ 67 ∧
    isReserved 0xFF = false ∧ isReserved (BitVec.ofNat 8 (0x3F + 64 * (a % 4))) = false ∧
    isReserved (BitVec.ofNat 8 (a / 1024)) = false

/-- A Variant B frame FCODEC builds has 21 to 31 bytes: at most ten of its bytes are escaped
(44_byte_stuffer.md R203). -/
def Obligations.BuiltFramesHaveAtMostTenEscapes : Prop :=
  (∀ (addr : Half) (vals : List Half) (s : State), vals.length ≤ 4 →
    ∃ t, exec (.encBWr addr vals) s = .next t ∧ 21 ≤ t.txlen ∧ t.txlen ≤ 31) ∧
  (∀ (addr : Half) (c : Byte) (s : State),
    ∃ t, exec (.encBRd addr c) s = .next t ∧ 21 ≤ t.txlen ∧ t.txlen ≤ 31)

/-! ### Frame decoder and sanitisers -/

/-- DEC.A reads six little-endian fields from byte 7 of a buffer of at least 19 bytes, 20 with RX_VERIFY; a shorter
buffer is malformed, and with RX_VERIFY a wrong sum of bytes 2 to 18 is a mismatch; nothing but ACC (when
verifying, log 16) and `res` is written (43_frame_decode.md R170, R171, R174). A decoder's fault in a transaction
records FINFO bit 1 = 1 (60_exceptions.md R284, R288); that a decoder issued directly makes the same entry with FINFO 0 is
the model's choice (log 10, log 11). -/
def Obligations.DecodeAReadsSixFields : Prop :=
  ∀ (raw : List Byte) (s : State),
    let field : Nat → Half := fun i => BitVec.ofNat 16 ((raw.getD i 0).toNat + 256 * (raw.getD (i + 1) 0).toNat)
    let sum : Byte := BitVec.ofNat 8 (((raw.take 19).drop 2).map BitVec.toNat).sum
    let fields : Six Half := ⟨field 7, field 9, field 11, field 13, field 15, field 17⟩
    (s.cfg.rxVerify = false → 19 ≤ raw.length → exec (.decA raw) s = .next { s with res := .six fields }) ∧
    (s.cfg.rxVerify = false → raw.length < 19 → exec (.decA raw) s = .next (faulted 4 s.finfoNow s)) ∧
    (s.cfg.rxVerify = true → 20 ≤ raw.length → raw.getD 19 0 = sum →
      exec (.decA raw) s = .next { s with acc := sum, res := .six fields }) ∧
    (s.cfg.rxVerify = true → 20 ≤ raw.length → raw.getD 19 0 ≠ sum →
      exec (.decA raw) s = .next (faulted 6 s.finfoNow { s with acc := sum })) ∧
    (s.cfg.rxVerify = true → raw.length < 20 → exec (.decA raw) s = .next (faulted 4 s.finfoNow s))

/-- DEC.B reads four little-endian fields from offset 6 of the bytes from the first AA on, unstuffed first when RX_UNSTUFF
is on; START is the index of that AA; a buffer without AA, or with too few bytes from it on, is malformed, and with
RX_VERIFY a wrong sum of offsets 2 to 17 is a mismatch; only START, ESCP (with RX_UNSTUFF), ACC (when verifying, log 16)
and `res` are written (43_frame_decode.md R175, R176, R177, R179, R180). START without a marker is left open (log 17). A
decoder's fault in a transaction records FINFO bit 1 = 1 (60_exceptions.md R284, R288); that a decoder issued directly makes
the same entry with FINFO 0 is the model's choice (log 10, log 11). -/
def Obligations.DecodeBReadsFourFieldsFromTheMarker : Prop :=
  ∀ (raw : List Byte) (s : State),
    let k : List Byte := bytesFromMarker s.cfg raw
    let u : State := markerFound raw s
    let field : Nat → Half := fun j => BitVec.ofNat 16 ((k.getD j 0).toNat + 256 * (k.getD (j + 1) 0).toNat)
    let sum : Byte := BitVec.ofNat 8 (((k.take 18).drop 2).map BitVec.toNat).sum
    let fields : Four Half := ⟨field 6, field 8, field 10, field 12⟩
    ((0xAA : Byte) ∉ raw →
      ∃ st, exec (.decB raw) s = .next (faulted 4 s.finfoNow { s with start := st })) ∧
    ((0xAA : Byte) ∈ raw → s.cfg.rxVerify = false → 14 ≤ k.length →
      exec (.decB raw) s = .next { u with res := .four fields }) ∧
    ((0xAA : Byte) ∈ raw → s.cfg.rxVerify = false → k.length < 14 →
      exec (.decB raw) s = .next (faulted 4 s.finfoNow u)) ∧
    ((0xAA : Byte) ∈ raw → s.cfg.rxVerify = true → 19 ≤ k.length → k.getD 18 0 = sum →
      exec (.decB raw) s = .next { u with acc := sum, res := .four fields }) ∧
    ((0xAA : Byte) ∈ raw → s.cfg.rxVerify = true → 19 ≤ k.length → k.getD 18 0 ≠ sum →
      exec (.decB raw) s = .next (faulted 6 s.finfoNow { u with acc := sum })) ∧
    ((0xAA : Byte) ∈ raw → s.cfg.rxVerify = true → k.length < 19 →
      exec (.decB raw) s = .next (faulted 4 s.finfoNow u))

/-- DEC.B with RX_UNSTUFF gives back the four values of a stuffed response frame, behind garbage without AA and
before any trailing bytes; the checksum passes RX_VERIFY (43_frame_decode.md R179, R180). -/
def Obligations.DecodeBWithUnstuffReturnsTheStuffedValues : Prop :=
  ∀ (g tail : List Byte) (addr v0 v1 v2 v3 : Half) (s : State),
    s.cfg.rxUnstuff = true → (0xAA : Byte) ∉ g →
    ∃ t f, exec (.decB (peerResponseB g addr v0 v1 v2 v3 ++ tail)) s = .next t ∧
      t.res = .four f ∧ f = ⟨v0, v1, v2, v3⟩ ∧ t.start = g.length ∧
      t = { s with start := t.start, escp := t.escp, acc := t.acc, res := t.res }

/-- Garbage without AA before a buffer moves START and leaves the fields as they are; an AA in the garbage is taken
for the marker, without a fault if enough bytes follow it (43_frame_decode.md R181). -/
def Obligations.ResynchronisationSkipsGarbage : Prop :=
  (∀ (g raw : List Byte) (s t : State), (0xAA : Byte) ∉ g → (0xAA : Byte) ∈ raw →
    exec (.decB raw) s = .next t →
    exec (.decB (g ++ raw)) s = .next { t with start := t.start + g.length }) ∧
  (∀ (g raw : List Byte) (s t : State), (0xAA : Byte) ∈ g → exec (.decB (g ++ raw)) s = .next t →
    t.start < g.length ∧
    (s.cfg.rxVerify = false → s.cfg.rxUnstuff = false → t.start + 14 ≤ (g ++ raw).length →
      t.err = s.err ∧ t.fault = s.fault))

/-- Without RX_VERIFY the result of a decoder does not depend on the bytes it does not inspect: in Variant A all but
bytes 7 to 18, in Variant B, without RX_UNSTUFF, the five bytes after the marker and those behind the window
(43_frame_decode.md R172, R178). -/
def Obligations.DecodersDoNotInspectTheOtherBytes : Prop :=
  (∀ (raw raw' : List Byte) (s : State), s.cfg.rxVerify = false → 19 ≤ raw.length → 19 ≤ raw'.length →
    (∀ i, 7 ≤ i → i < 19 → raw.getD i 0 = raw'.getD i 0) → exec (.decA raw) s = exec (.decA raw') s) ∧
  (∀ (g m m' w tail tail' : List Byte) (s : State), s.cfg.rxVerify = false → s.cfg.rxUnstuff = false →
    (0xAA : Byte) ∉ g → m.length = 5 → m'.length = 5 → w.length = 8 →
    exec (.decB (g ++ [0xAA] ++ m ++ w ++ tail)) s = exec (.decB (g ++ [0xAA] ++ m' ++ w ++ tail')) s)

/-- SAN.CLAMP answers 0 above 6000 and the value itself up to 6000, so 0 to 6000, and writes no flag and no register
(43_frame_decode.md R184). -/
def Obligations.ClampAbove6000IsZero : Prop :=
  ∀ (u : Half) (s : State),
    ∃ v : Int, exec (.sanClamp u) s = .next { s with res := .value v } ∧ 0 ≤ v ∧ v ≤ 6000 ∧
      (6000 < u.toNat → v = 0) ∧ (u.toNat ≤ 6000 → v = u.toNat) ∧
      (encode (.sanClamp u)).head? = some 0x1A

/-- SAN.SIGNED subtracts 65536 strictly above 32768, so answers -32767 to 32768, and differs from the
two's-complement reading at 32768 alone; it writes no flag and no register (43_frame_decode.md R185). -/
def Obligations.SignedConversionDiffersFromTwosComplementAt32768Only : Prop :=
  ∀ (u : Half) (s : State),
    ∃ v : Int, exec (.sanSigned u) s = .next { s with res := .value v } ∧ -32767 ≤ v ∧ v ≤ 32768 ∧
      (32768 < u.toNat → v = u.toNat - 65536) ∧ (u.toNat ≤ 32768 → v = u.toNat) ∧
      (v = u.toInt ↔ u.toNat ≠ 32768) ∧ (encode (.sanSigned u)).head? = some 0x1B

/-! ### Transport -/

/-- SEND hands the bytes to the transport and has no effect on the block when the answer is Ok; a Failure is
TransportError; without a scripted answer it is one of the two (46_transport_wait.md R260). Where the answers come
from is the model's choice (log 3); so are the fault entry of a SEND issued directly, with FINFO 0 outside a transaction
(log 10, log 11), and that an empty operand, which R260 excludes, is handed over like any other (log 28). -/
def Obligations.SendHandsTheFrameOver : Prop :=
  (∀ b (s : State) rest, s.sendAns = .ok :: rest →
    exec (.send b) s =
      .next { s with sendAns := rest, outs := s.outs ++ [.sent b .ok], res := .none }) ∧
  (∀ b (s : State) rest, s.sendAns = .failure :: rest →
    exec (.send b) s =
      .next (faulted 3 s.finfoNow { s with sendAns := rest, outs := s.outs ++ [.sent b .failure] })) ∧
  (∀ b (s : State), s.sendAns = [] →
    exec (.send b) s =
        .next { s with draws := s.draws + 1, outs := s.outs ++ [.sent b .ok], res := .none } ∨
      exec (.send b) s =
        .next (faulted 3 s.finfoNow { s with draws := s.draws + 1, outs := s.outs ++ [.sent b .failure] }))

/-- RECV empties RXBUF and puts into it what the answer brings, at most `max` bytes and at most RX_CAP (log 4);
nothing of the old RXBUF remains; no fault is raised (46_transport_wait.md R261, R263). The bound by RX_CAP is the
model's choice (log 4). -/
def Obligations.ReceiveReplacesTheBuffer : Prop :=
  (∀ (max t : Half) (s : State) b rest, s.recvAns = .bytes b :: rest → b.length ≤ max.toNat →
    b.length ≤ s.cfg.rxCap →
    exec (.recv max t) s =
      .next { s with
        recvAns := rest
        rxbuf := b
        outs := s.outs ++ [.received (.bytes b)]
        res := .answer (.bytes b) }) ∧
  (∀ (max t : Half) (s : State) a rest, s.recvAns = a :: rest → a = .timeout ∨ a = .failure →
    exec (.recv max t) s =
      .next { s with
        recvAns := rest
        rxbuf := []
        outs := s.outs ++ [.received a]
        res := .answer a }) ∧
  (∀ (max t : Half) (s : State), ∃ u, exec (.recv max t) s = .next u ∧
    u.rxlen ≤ max.toNat ∧ u.rxlen ≤ s.cfg.rxCap ∧ u.fault = s.fault ∧ u.err = s.err ∧
    ∀ old, ∃ u', exec (.recv max t) { s with rxbuf := old } = .next u' ∧ u' = u)

/-- WAITRSP issued outside a transaction: a non-empty answer is the response, Failure is TransportError, and nothing
(Timeout or an empty buffer) is TimeoutError in Deadline mode or at the limit of Poll mode, else the wait goes on
with one more attempt counted (46_transport_wait.md R266 to R268). The direct issue and one attempt a step are the
model's choice (log 5, log 6), the fault entry with FINFO 0 of a wait outside a transaction too (log 11; in one R282 and
R283 record bit 1 = 1), and a RETRY_LIMIT of 0, which R267 excludes, behaves as 1 (log 25). -/
def Obligations.WaitForResponseByDiscipline : Prop :=
  ∀ (s : State) a rest, s.recvAns = a :: rest → s.busy = false →
    (∀ x xs, a = .bytes (x :: xs) → (x :: xs).length ≤ s.cfg.rxCap →
      exec .waitrsp s =
        .next { s with
          tries := 0
          seq := .idle
          recvAns := rest
          rxbuf := x :: xs
          outs := s.outs ++ [.received a]
          res := .bytes (x :: xs) }) ∧
    (a = .failure →
      exec .waitrsp s =
        .next (faulted 3 0 { s with
          tries := 0
          recvAns := rest
          rxbuf := []
          outs := s.outs ++ [.received a] })) ∧
    (a = .timeout ∨ a = .bytes [] →
      (s.cfg.waitMode = .deadline →
        exec .waitrsp s =
          .next (faulted 2 0 { s with
            tries := 0
            recvAns := rest
            rxbuf := []
            outs := s.outs ++ [.received a] })) ∧
      (s.cfg.waitMode = .poll → ∀ n, s.cfg.retryLimit = .bounded n → n ≤ 1 →
        exec .waitrsp s =
          .next (faulted 2 0 { s with
            tries := 1
            recvAns := rest
            rxbuf := []
            outs := s.outs ++ [.received a] })) ∧
      (s.cfg.waitMode = .poll → (s.cfg.retryLimit = .unbounded ∨ ∃ n, s.cfg.retryLimit = .bounded n ∧ 1 < n) →
        exec .waitrsp s =
          .next { s with
            tries := 1
            seq := .wait
            recvAns := rest
            rxbuf := []
            outs := s.outs ++ [.received a] }))

/-! ### Commands -/

/-- A WRREG or RDREG accepted while idle, with a count of 1 to 6 and a known name: the operand registers load, STATUS,
FAULT, FINFO, RVALID and RCOUNT are as acceptance leaves them, ADDR and CLS are the entry's, `nsb` is the number
of exchanges, and the first exchange is at BUILD; nothing else changes, nothing is sent
(45_register_access.md R221, R223, R230, R236). -/
def Obligations.RegisterCommandsBegin : Prop :=
  ∀ (name dev : Byte) (count : BitVec 4) (values : Six Half) (s : State) (e : RegEntry),
    s.busy = false → 1 ≤ count.toNat → count.toNat ≤ 6 →
    s.cfg.regmap.find? (fun e => e.name == name) = some e →
    let begun : Byte → State := fun op =>
      { s with
        op := op
        name := name
        devid := dev
        count := count
        wv := values
        rcount := 0
        rvalid := false
        busy := true
        done := false
        err := false
        fault := 0
        finfo := 0
        seq := .build
        sb := 0
        nsb := if s.cfg.variant = .B ∧ 4 < count.toNat then 2 else 1
        addr := e.base
        cls := e.cls }
    exec (.wrreg name dev count values) s = .next (begun 0x01) ∧
    exec (.rdreg name dev count values) s = .next (begun 0x02)

/-- A WRREG or RDREG with a count of 0 or above 6 is accepted and ends at once with BadCount, before the name is looked
up, whatever the name; nothing is built or sent (45_register_access.md R220). -/
def Obligations.BadCountEndsTheCommandBeforeLookup : Prop :=
  ∀ (name dev : Byte) (count : BitVec 4) (values : Six Half) (s : State),
    s.busy = false → count.toNat = 0 ∨ 6 < count.toNat →
    exec (.wrreg name dev count values) s = .next (faulted 5 0 (accepted ⟨0x01, name, dev, count, values⟩ s)) ∧
    exec (.rdreg name dev count values) s = .next (faulted 5 0 (accepted ⟨0x02, name, dev, count, values⟩ s))

/-- A WRREG or RDREG with a name that is no key of REGMAP ends with UnknownRegister and FINFO 0 before any frame is
built or sent (60_exceptions.md R281). -/
def Obligations.UnknownNameEndsTheCommandBeforeAnyFrame : Prop :=
  ∀ (name dev : Byte) (count : BitVec 4) (values : Six Half) (s : State),
    s.busy = false → 1 ≤ count.toNat → count.toNat ≤ 6 →
    s.cfg.regmap.find? (fun e => e.name == name) = none →
    exec (.wrreg name dev count values) s = .next (faulted 1 0 (accepted ⟨0x01, name, dev, count, values⟩ s)) ∧
    exec (.rdreg name dev count values) s = .next (faulted 1 0 (accepted ⟨0x02, name, dev, count, values⟩ s))

/-- A command whose code is none of 01, 02, 0F, presented while idle, is accepted and ends at once with FAULT 7 and
FINFO 0; nothing is looked up, built or sent (60_exceptions.md R286). -/
def Obligations.IllegalCommandEndsAtOnce : Prop :=
  ∀ (c : Command) (s : State) rest, s.inputs = .command c :: rest → s.busy = false →
    c.op ≠ 0x01 → c.op ≠ 0x02 → c.op ≠ 0x0F →
    step s = .next (faulted 7 0 (accepted c { s with inputs := rest }))

/-- A command other than RESET presented while BUSY is refused: no register changes, FAULT is not written, the
transaction in flight goes on, and the presenter is answered refused(Busy); RESET is never refused
(60_exceptions.md R287). -/
def Obligations.CommandsAreRefusedWhileBusy : Prop :=
  ∀ (c : Command) (s : State) rest, s.inputs = .command c :: rest → s.busy = true →
    (c.op ≠ 0x0F → step s = .next { s with inputs := rest, outs := s.outs ++ [.refusedBusy] }) ∧
    (c.op = 0x0F → ∃ t, step s = .next t ∧ t.busy = false ∧ t.outs = s.outs)

/-- RESET, the power-on reset and the reset state leave every register at its listed value, RV apart, which has none
(RVALID is 0), whatever the state was, BUSY included; the parameters stay, and the command presents no completion
record (10_state.md R35, 70_reset_and_hazards.md R320). That the first name code of the instance is the first list entry's
is the model's choice (log 18). -/
def Obligations.ResetLeavesTheListedValues : Prop :=
  let listed : State → Config → Prop := fun t c =>
    t.op = 0x00 ∧ t.name = c.firstName ∧ t.devid = 0x00 ∧ t.count = 0 ∧ t.wv = ⟨0, 0, 0, 0, 0, 0⟩ ∧
    t.rcount = 0 ∧ t.rvalid = false ∧ t.busy = false ∧ t.done = false ∧ t.err = false ∧ t.fault = 0 ∧
    t.finfo = 0 ∧ t.seq = .idle ∧ t.sb = 0 ∧ t.nsb = 1 ∧ t.tries = 0 ∧ t.addr = 0x0000 ∧ t.cls = .magnitude ∧
    t.txbuf = [] ∧ t.txlen = 0 ∧ t.rxbuf = [] ∧ t.rxlen = 0 ∧ t.acc = 0x00 ∧ t.escp = false ∧ t.start = 0 ∧
    t.stg = ⟨0, 0, 0, 0, 0, 0⟩ ∧ t.cfg = c
  (∀ s : State, ∃ t, exec .reset s = .next t ∧ listed t s.cfg ∧ t.outs = s.outs) ∧
  (∀ (s : State) rest, s.inputs = .powerOn :: rest → ∃ t, step s = .next t ∧ listed t s.cfg) ∧
  (∀ c : Config, listed (State.resetWith c) c) ∧
  (∀ (c : Config) (e : RegEntry) rest, c.regmap = e :: rest → c.firstName = e.name)

/-- Fault entry inside a transaction: FAULT has the cause's code, FINFO bit 0 the sub-block and bit 1 whether a frame of
the transaction had been sent, ERR and DONE are 1, BUSY is 0, the phase is IDLE, one completion record is presented,
and nothing else changes (60_exceptions.md R280, R290). That bit 1 is read from the phase, and that a fault outside a
transaction makes the same entry with FINFO 0, is the model's choice (log 10, log 11). -/
def Obligations.FaultEntryWritesOnlyTheFaultState : Prop :=
  (∀ (c : Cause) (s : State), s.busy = true →
    s.raise c = faulted c.code (BitVec.ofNat 2 (s.sb.toNat + if s.sendReturnedOk then 2 else 0)) s) ∧
  (∀ (c : Cause) (s : State), s.busy = false → s.raise c = faulted c.code 0 s) ∧
  [Cause.unknownRegister, .timeoutError, .transportError, .malformedFrame, .badCount, .checksumMismatch,
    .illegalCommand].map Cause.code = [1, 2, 3, 4, 5, 6, 7]

/-! ### The sequencer, phase by phase -/

/-- BUILD runs the ENC operation of the exchange, with the sub-block's address and values, and moves to SEND: in Variant A
all supplied values at ADDR; in Variant B the first up to four at ADDR, the rest at ADDR + 8 modulo 65536; a read asks
for four, then two (45_register_access.md R222, R226, R227, R237, R245, 20_memory.md R63). -/
def Obligations.BuildPhaseRunsTheEncoder : Prop :=
  ∀ s : State, s.seq = .build → s.count.toNat ≤ 6 →
    let vals : List Half := s.wv.toList.take s.count.toNat
    let addr : Half := if s.sb = 0 then s.addr else s.addr + 8
    let builds : Instr → Prop := fun i =>
      ∃ frame ck, exec i s = .next { s with txbuf := frame, acc := ck, res := .bytes frame } ∧
        s.advance = { s with txbuf := frame, acc := ck, seq := .send }
    (s.op = 0x01 → s.cfg.variant = .A → builds (.encAWr s.devid addr vals)) ∧
    (s.op = 0x01 → s.cfg.variant = .B → s.sb = 0 → builds (.encBWr s.addr (vals.take 4))) ∧
    (s.op = 0x01 → s.cfg.variant = .B → s.sb = 1 → builds (.encBWr (s.addr + 8) (vals.drop 4))) ∧
    (s.op = 0x02 → s.cfg.variant = .A → builds (.encARd s.devid addr)) ∧
    (s.op = 0x02 → s.cfg.variant = .B → s.sb = 0 → builds (.encBRd s.addr 4)) ∧
    (s.op = 0x02 → s.cfg.variant = .B → s.sb = 1 → builds (.encBRd (s.addr + 8) 2))

/-- In Variant B the device id influences no byte: BUILD with another DEVID differs in DEVID alone
(42_frame_encode.md R158). -/
def Obligations.DeviceIdIsIgnoredInVariantB : Prop :=
  ∀ (s : State) (d : Byte), s.cfg.variant = .B → s.seq = .build →
    State.advance { s with devid := d } = { s.advance with devid := d }

/-- SEND hands TXBUF over once: Ok leads to WAIT with no attempt counted, Failure ends the transaction with
TransportError, whose FINFO bit 1 is 0 only for the first exchange (45_register_access.md R225, R245,
60_exceptions.md R283). -/
def Obligations.SendPhaseSendsOnce : Prop :=
  ∀ (s : State) rest, s.seq = .send → s.busy = true →
    (s.sendAns = .ok :: rest →
      s.advance = { s with
        sendAns := rest
        outs := s.outs ++ [.sent s.txbuf .ok]
        tries := 0
        seq := .wait }) ∧
    (s.sendAns = .failure :: rest →
      s.advance = faulted 3 (if s.sb = 0 then 0 else 3)
        { s with sendAns := rest, outs := s.outs ++ [.sent s.txbuf .failure] })

/-- WAIT in a transaction: any non-empty buffer is the response, whatever it holds: a read goes to DECODE, a write to the
next exchange or to completion; Failure is TransportError; nothing is TimeoutError when the wait is exhausted, else one
more attempt is counted; FINFO names the sub-block with bit 1 set (45_register_access.md R227, R245,
46_transport_wait.md R266, 60_exceptions.md R282, R283). -/
def Obligations.WaitPhaseFollowsTheAnswer : Prop :=
  ∀ (s : State) a rest, s.seq = .wait → s.busy = true → s.recvAns = a :: rest →
    let finfo : BitVec 2 := if s.sb = 0 then 2 else 3
    (∀ x xs, a = .bytes (x :: xs) → (x :: xs).length ≤ s.cfg.rxCap →
      let t : State := { s with recvAns := rest, rxbuf := x :: xs, outs := s.outs ++ [.received a] }
      (s.op = 0x02 → s.advance = { t with seq := .decode }) ∧
      (s.op = 0x01 → s.sb = 0 → s.nsb = 2 → s.advance = { t with sb := 1, seq := .build }) ∧
      (s.op = 0x01 → s.sb = 1 ∨ s.nsb = 1 → s.nsb ≠ 3 → s.advance = completed t)) ∧
    (let t : State := { s with recvAns := rest, rxbuf := [], outs := s.outs ++ [.received a] }
     (a = .failure → s.advance = faulted 3 finfo t) ∧
     (a = .timeout ∨ a = .bytes [] →
      (s.cfg.waitMode = .deadline → s.advance = faulted 2 finfo t) ∧
      (s.cfg.waitMode = .poll → ∀ n, s.cfg.retryLimit = .bounded n → n ≤ s.tries + 1 →
        s.advance = faulted 2 finfo { t with tries := s.tries + 1 }) ∧
      (s.cfg.waitMode = .poll →
        (s.cfg.retryLimit = .unbounded ∨ ∃ n, s.cfg.retryLimit = .bounded n ∧ s.tries + 1 < n) →
        s.advance = { t with tries := s.tries + 1 })))

/-- DECODE of a response that is malformed, in any configuration and in either exchange, ends the read with MalformedFrame
and leaves RV, RCOUNT and RVALID as they were: fewer than 19 bytes in Variant A, no AA in Variant B, or fewer than 14 bytes
from the AA on, counted after unstuffing with RX_UNSTUFF; with RX_VERIFY 20 and 19. FINFO names the sub-block, with bit 1
set (60_exceptions.md R284, 43_frame_decode.md R171, R176, R177, 45_register_access.md R240). START without a marker is
left open (log 17). -/
def Obligations.MalformedResponseEndsTheRead : Prop :=
  ∀ s : State, s.seq = .decode → s.busy = true →
    let finfo : BitVec 2 := if s.sb = 0 then 2 else 3
    (s.cfg.variant = .A → s.rxbuf.length < (if s.cfg.rxVerify then 20 else 19) →
      s.advance = faulted 4 finfo s) ∧
    (s.cfg.variant = .B → (0xAA : Byte) ∉ s.rxbuf → ∃ st, s.advance = faulted 4 finfo { s with start := st }) ∧
    (s.cfg.variant = .B → (0xAA : Byte) ∈ s.rxbuf →
      (bytesFromMarker s.cfg s.rxbuf).length < (if s.cfg.rxVerify then 19 else 14) →
      s.advance = faulted 4 finfo (markerFound s.rxbuf s))

/-- With RX_VERIFY, DECODE of a response that is long enough and whose checksum byte is not the sum of its range ends the
read with ChecksumMismatch and leaves RV, RCOUNT and RVALID as they were, in either exchange; without RX_VERIFY no response
is a mismatch (60_exceptions.md R288, 43_frame_decode.md R174, R180, 45_register_access.md R240). That ACC then holds the
sum is the model's reading (log 16). -/
def Obligations.ChecksumMismatchEndsTheRead : Prop :=
  ∀ s : State, s.seq = .decode → s.busy = true →
    let finfo : BitVec 2 := if s.sb = 0 then 2 else 3
    let k : List Byte := bytesFromMarker s.cfg s.rxbuf
    let sumA : Byte := BitVec.ofNat 8 (((s.rxbuf.take 19).drop 2).map BitVec.toNat).sum
    let sumB : Byte := BitVec.ofNat 8 (((k.take 18).drop 2).map BitVec.toNat).sum
    (s.cfg.variant = .A → s.cfg.rxVerify = true → 20 ≤ s.rxbuf.length → s.rxbuf.getD 19 0 ≠ sumA →
      s.advance = faulted 6 finfo { s with acc := sumA }) ∧
    (s.cfg.variant = .B → s.cfg.rxVerify = true → (0xAA : Byte) ∈ s.rxbuf → 19 ≤ k.length → k.getD 18 0 ≠ sumB →
      s.advance = faulted 6 finfo { markerFound s.rxbuf s with acc := sumB }) ∧
    (s.cfg.rxVerify = false → s.fault = 0 → s.advance.fault = 0 ∨ s.advance.fault = 4)

/-- DECODE of a response the decoder accepts, in any configuration: the fields go to STG; then the next exchange, or the
first COUNT staged values, sanitised (0 for a magnitude above 6000, 65536 less for a signed value above 32768), go to RV
with RCOUNT and RVALID, and the transaction completes; the other results keep what they held
(45_register_access.md R236, R238, R239, R240, R245, 43_frame_decode.md R186). -/
def Obligations.DecodePhaseStagesAndCommits : Prop :=
  ∀ s : State, s.seq = .decode → s.busy = true → s.count.toNat ≤ 6 → ∀ (st : Nat) (e : Bool) (a : Byte),
    let commits : Six Half → State → Prop := fun g t =>
      ∃ rv : Six (BitVec 17),
        t = completed { s with
          start := st
          escp := e
          acc := a
          stg := g
          rv := rv
          rcount := BitVec.ofNat 3 s.count.toNat
          rvalid := true } ∧
        (∀ k, k < s.count.toNat → (rv.get k).toInt = returnedValue s.cls (g.get k)) ∧
        (∀ k, s.count.toNat ≤ k → k < 6 → rv.get k = s.rv.get k)
    (∀ f : Six Half, s.cfg.variant = .A → s.sb = 0 → s.nsb = 1 → st = s.start → e = s.escp →
      exec (.decA s.rxbuf) s = .next { s with acc := a, res := .six f } → commits f s.advance) ∧
    (∀ f : Four Half, s.cfg.variant = .B →
      exec (.decB s.rxbuf) s = .next { s with start := st, escp := e, acc := a, res := .four f } →
      (s.sb = 0 → s.nsb = 1 → commits ⟨f.f0, f.f1, f.f2, f.f3, s.stg.v4, s.stg.v5⟩ s.advance) ∧
      (s.sb = 0 → s.nsb = 2 →
        s.advance = { s with
          start := st
          escp := e
          acc := a
          stg := ⟨f.f0, f.f1, f.f2, f.f3, s.stg.v4, s.stg.v5⟩
          sb := 1
          seq := .build }) ∧
      (s.sb = 1 → s.nsb = 2 → commits ⟨s.stg.v0, s.stg.v1, s.stg.v2, s.stg.v3, f.f0, f.f1⟩ s.advance))

/-- RV, RCOUNT and RVALID are written together, by the commit that ends a read without fault; besides it a reset writes
them, and the acceptance of a command clears RCOUNT and RVALID; a new fault of the sequencer writes none of them
(45_register_access.md R221, R240, 10_state.md R23). -/
def Obligations.ResultsAreWrittenOnlyByCommit : Prop :=
  let same : State → State → Prop := fun s t => t.rv = s.rv ∧ t.rcount = s.rcount ∧ t.rvalid = s.rvalid
  let committed : State → State → Prop := fun s t =>
    s.seq = .decode ∧ t.rvalid = true ∧ t.rcount = BitVec.ofNat 3 s.count.toNat ∧ t.done = true ∧ t.err = false ∧
      t.seq = .idle
  let cleared : State → State → Prop := fun s t =>
    s.busy = false ∧ t.rv = s.rv ∧ t.rcount = 0 ∧ t.rvalid = false
  (∀ s : State, s.err = false → s.advance.err = true → same s s.advance) ∧
  (∀ s : State, same s s.advance ∨ committed s s.advance) ∧
  (∀ i (s t : State), exec i s = .next t → i ≠ .reset → same s t ∨ isHostCommand i = true ∧ cleared s t) ∧
  (∀ s t : State, step s = .next t → resetPresented s = false → same s t ∨ cleared s t ∨ committed s t)

/-! ### Whole transactions -/

/-- A WRREG in Variant A, presented to an idle block whose transport answers Ok and then any non-empty bytes, ends after
four steps without fault: one A-WR frame with all values, one acknowledgment, one completion record
(45_register_access.md R230). How the command and the answers come in, and that each phase is a step, is the model's choice
(log 2, log 3, log 5). -/
def Obligations.VariantAWriteCompletes : Prop :=
  ∀ (s : State) (c : Command) (e : RegEntry) (x : Byte) (xs : List Byte) sa ra,
    s.cfg.variant = .A → s.busy = false → s.inputs = [.command c] → c.op = 0x01 →
    1 ≤ c.count.toNat → c.count.toNat ≤ 6 → s.cfg.regmap.find? (fun e => e.name == c.name) = some e →
    s.sendAns = .ok :: sa → s.recvAns = .bytes (x :: xs) :: ra → (x :: xs).length ≤ s.cfg.rxCap →
    ∃ t, runsTo 4 s t ∧ t.busy = false ∧ t.done = true ∧ t.err = false ∧ t.fault = 0 ∧ t.finfo = 0 ∧
      t.seq = .idle ∧ t.rvalid = false ∧ t.rcount = 0 ∧ t.rv = s.rv ∧ t.wv = c.values ∧ t.sendAns = sa ∧
      t.recvAns = ra ∧
      t.outs = s.outs ++
        [.sent (frameA (bodyAWr c.dev e.base (c.values.toList.take c.count.toNat))) .ok,
         .received (.bytes (x :: xs)), .completion ⟨true, 0, 0, 0, []⟩]

/-- A WRREG of five or six values in Variant B ends after seven steps without fault: the frame with the first four values
at the base address, its acknowledgment, then the frame with the rest at the address eight higher, its acknowledgment,
one completion record (45_register_access.md R222, R230, R231). How the command and the answers come in, and that each
phase is a step, is the model's choice (log 2, log 3, log 5). -/
def Obligations.VariantBSplitWriteCompletes : Prop :=
  ∀ (s : State) (c : Command) (e : RegEntry) (x y : Byte) (xs ys : List Byte) sa ra,
    s.cfg.variant = .B → s.busy = false → s.inputs = [.command c] → c.op = 0x01 →
    5 ≤ c.count.toNat → c.count.toNat ≤ 6 → s.cfg.regmap.find? (fun e => e.name == c.name) = some e →
    s.sendAns = .ok :: .ok :: sa → s.recvAns = .bytes (x :: xs) :: .bytes (y :: ys) :: ra →
    (x :: xs).length ≤ s.cfg.rxCap → (y :: ys).length ≤ s.cfg.rxCap →
    let vals : List Half := c.values.toList.take c.count.toNat
    let frame : Half → List Half → List Byte := fun addr v =>
      wireB (unstuffedB (coreB true addr (writeWindow v) (BitVec.ofNat 8 (2 * v.length))))
    ∃ t, runsTo 7 s t ∧ t.busy = false ∧ t.done = true ∧ t.err = false ∧ t.fault = 0 ∧ t.finfo = 0 ∧
      t.seq = .idle ∧ t.rvalid = false ∧ t.sendAns = sa ∧ t.recvAns = ra ∧
      t.outs = s.outs ++
        [.sent (frame e.base (vals.take 4)) .ok, .received (.bytes (x :: xs)),
         .sent (frame (e.base + 8) (vals.drop 4)) .ok, .received (.bytes (y :: ys)),
         .completion ⟨true, 0, 0, 0, []⟩]

/-- A split write whose second exchange times out in Deadline mode ends with TimeoutError and FINFO 11 after both frames
have been sent, each once: the four values at the base address, then the rest at the address eight higher; the first is
not undone or repeated (45_register_access.md R222, R232, 60_exceptions.md R282). How the command and the answers come
in, and that each phase is a step, is the model's choice (log 2, log 3, log 5). -/
def Obligations.SecondExchangeTimeoutReportsHalfDoneWrite : Prop :=
  ∀ (s : State) (c : Command) (e : RegEntry) (x : Byte) (xs : List Byte) sa ra,
    s.cfg.variant = .B → s.cfg.waitMode = .deadline → s.busy = false → s.inputs = [.command c] → c.op = 0x01 →
    5 ≤ c.count.toNat → c.count.toNat ≤ 6 → s.cfg.regmap.find? (fun e => e.name == c.name) = some e →
    s.sendAns = .ok :: .ok :: sa → s.recvAns = .bytes (x :: xs) :: .timeout :: ra →
    (x :: xs).length ≤ s.cfg.rxCap →
    let vals : List Half := c.values.toList.take c.count.toNat
    let frame : Half → List Half → List Byte := fun addr v =>
      wireB (unstuffedB (coreB true addr (writeWindow v) (BitVec.ofNat 8 (2 * v.length))))
    ∃ t, runsTo 7 s t ∧ t.busy = false ∧ t.done = true ∧ t.err = true ∧ t.fault = 2 ∧ t.finfo = 3 ∧
      t.seq = .idle ∧ t.rvalid = false ∧ t.sendAns = sa ∧ t.recvAns = ra ∧
      t.outs = s.outs ++
        [.sent (frame e.base (vals.take 4)) .ok, .received (.bytes (x :: xs)),
         .sent (frame (e.base + 8) (vals.drop 4)) .ok, .received .timeout, .completion ⟨false, 2, 3, 0, []⟩]

/-- An RDREG in Variant A ends after five steps with the first COUNT fields of any response of at least 19 bytes (with
RX_VERIFY of 20, whose last is the sum of bytes 2 to 18), sanitised by the register's class, in RV; one A-RD frame is
sent (45_register_access.md R236, R239, R240, 43_frame_decode.md R186). How the command and the answers come in, that
each phase is a step, and that the record lists the results that exist is the model's choice (log 2, log 3, log 5,
log 24). -/
def Obligations.VariantAReadDeliversTheFields : Prop :=
  ∀ (s : State) (c : Command) (e : RegEntry) (raw : List Byte) sa ra,
    s.cfg.variant = .A → s.busy = false → s.inputs = [.command c] → c.op = 0x02 →
    1 ≤ c.count.toNat → c.count.toNat ≤ 6 → s.cfg.regmap.find? (fun e => e.name == c.name) = some e →
    s.sendAns = .ok :: sa → s.recvAns = .bytes raw :: ra → raw.length ≤ s.cfg.rxCap →
    (s.cfg.rxVerify = false ∧ 19 ≤ raw.length ∨
      s.cfg.rxVerify = true ∧ 20 ≤ raw.length ∧
        raw.getD 19 0 = BitVec.ofNat 8 (((raw.take 19).drop 2).map BitVec.toNat).sum) →
    ∃ t, runsTo 5 s t ∧ t.busy = false ∧ t.done = true ∧ t.err = false ∧ t.fault = 0 ∧ t.seq = .idle ∧
      t.rvalid = true ∧ t.rcount.toNat = c.count.toNat ∧ t.sendAns = sa ∧ t.recvAns = ra ∧
      (∀ k, k < c.count.toNat →
        (t.rv.get k).toInt = returnedValue e.cls (u16le (raw.getD (7 + 2 * k) 0) (raw.getD (8 + 2 * k) 0))) ∧
      (∀ k, c.count.toNat ≤ k → k < 6 → t.rv.get k = s.rv.get k) ∧
      t.outs = s.outs ++
        [.sent (frameA (bodyARd s.cfg c.dev e.base)) .ok, .received (.bytes raw),
         .completion ⟨true, 0, 0, t.rcount, t.rv.toList.take c.count.toNat⟩]

/-- An RDREG of five or six values in Variant B, answered by two response frames (behind garbage without AA) that carry the
values at the base address and eight above it, escaped when RX_UNSTUFF is on and unescaped when it is off, ends after nine
steps with those values, sanitised, in RV: the split is recombined, with RX_VERIFY or without (45_register_access.md
R238, R241, 43_frame_decode.md R179, R186). How the command and the answers come in, and that each phase is a step, is
the model's choice (log 2, log 3, log 5). -/
def Obligations.VariantBSplitReadRecombines : Prop :=
  ∀ (s : State) (c : Command) (e : RegEntry) (g1 g2 : List Byte) (v : Six Half) (w0 w1 : Half) sa ra,
    s.cfg.variant = .B → s.busy = false → s.inputs = [.command c] → c.op = 0x02 →
    5 ≤ c.count.toNat → c.count.toNat ≤ 6 → s.cfg.regmap.find? (fun e => e.name == c.name) = some e →
    (0xAA : Byte) ∉ g1 → (0xAA : Byte) ∉ g2 →
    let response : List Byte → Half → Half → Half → Half → Half → List Byte :=
      if s.cfg.rxUnstuff then peerResponseB else plainResponseB
    let r1 : List Byte := response g1 e.base v.v0 v.v1 v.v2 v.v3
    let r2 : List Byte := response g2 (e.base + 8) v.v4 v.v5 w0 w1
    s.sendAns = .ok :: .ok :: sa → s.recvAns = .bytes r1 :: .bytes r2 :: ra →
    r1.length ≤ s.cfg.rxCap → r2.length ≤ s.cfg.rxCap →
    ∃ t, runsTo 9 s t ∧ t.busy = false ∧ t.done = true ∧ t.err = false ∧ t.fault = 0 ∧ t.seq = .idle ∧
      t.rvalid = true ∧ t.rcount.toNat = c.count.toNat ∧
      (∀ k, k < c.count.toNat → (t.rv.get k).toInt = returnedValue e.cls (v.get k))

/-- In Poll mode with RETRY_LIMIT = n, n attempts that bring nothing end the transaction with TimeoutError at the n-th and
not before; no frame is sent again (46_transport_wait.md R265, R266, R267). One attempt a step is the model's choice
(log 5). -/
def Obligations.BoundedPollTimesOutAfterTheLimit : Prop :=
  ∀ (s : State) (answers : List RecvAnswer) (n : Nat) ra,
    s.busy = true → s.seq = .wait → s.tries = 0 → s.inputs = [] → s.cfg.waitMode = .poll →
    s.cfg.retryLimit = .bounded n → 1 ≤ n → answers.length = n →
    (∀ a ∈ answers, a = .timeout ∨ a = .bytes []) → s.recvAns = answers ++ ra →
    (∃ t, runsTo n s t ∧ t.fault = 2 ∧ t.err = true ∧ t.done = true ∧ t.busy = false ∧ t.seq = .idle ∧
      t.tries = n ∧ t.recvAns = ra ∧ receiveCount t.outs = receiveCount s.outs + n ∧
      sentFrames t.outs = sentFrames s.outs) ∧
    (∀ k, k < n → ∃ u, runsTo k s u ∧ u.busy = true ∧ u.seq = .wait ∧ u.tries = k)

/-- In Poll mode with RETRY_LIMIT = Unbounded and a transport that brings nothing, the transaction never ends: a step that
takes anything but a reset (a command, a host access, a direct issue, nothing) leaves the block BUSY in WAIT with no
frame sent; so after any number of attempts the block is BUSY in WAIT, and a RESET presented then ends it, with no
completion record (46_transport_wait.md R267, 70_reset_and_hazards.md R320, R331). One attempt a step is the model's
choice (log 5). -/
def Obligations.UnboundedPollEndsOnlyByReset : Prop :=
  (∀ (s t : State) (a : RecvAnswer) rest,
    s.busy = true → s.seq = .wait → s.cfg.waitMode = .poll → s.cfg.retryLimit = .unbounded →
    s.recvAns = a :: rest → a = .timeout ∨ a = .bytes [] → resetPresented s = false → step s = .next t →
    t.busy = true ∧ t.seq = .wait ∧ t.cfg = s.cfg ∧ t.done = s.done ∧ t.inputs = s.inputs.tail ∧
      sentFrames t.outs = sentFrames s.outs ∧
      (t.recvAns = s.recvAns ∧ t.tries = s.tries ∨ t.recvAns = rest ∧ t.tries = s.tries + 1)) ∧
  (∀ (s : State) (answers : List RecvAnswer) ra,
    s.busy = true → s.seq = .wait → s.inputs = [] → s.cfg.waitMode = .poll →
    s.cfg.retryLimit = .unbounded → (∀ a ∈ answers, a = .timeout ∨ a = .bytes []) →
    s.recvAns = answers ++ ra →
    ∃ u, runsTo answers.length s u ∧ u.busy = true ∧ u.done = s.done ∧ u.seq = .wait ∧
      u.tries = s.tries + answers.length ∧ sentFrames u.outs = sentFrames s.outs ∧
      ∀ c rest, c.op = 0x0F → ∃ t, step { u with inputs := .command c :: rest } = .next t ∧ t.seq = .idle ∧
        t.busy = false ∧ t.done = false ∧ t.err = false ∧ t.fault = 0 ∧ t.rxbuf = [] ∧ t.outs = u.outs)

/-! ### Invariants and whole-machine rules -/

/-- The invariant holds of the reset state of every configuration. -/
def Obligations.InvariantHoldsAfterReset : Prop :=
  State.reset.Inv ∧ ∀ c : Config, (State.resetWith c).Inv

/-- Every step keeps the invariant: the buffers within their capacities, BUSY and DONE never both 1, ERR only with DONE and a
fault code, RCOUNT and the results in their ranges, the phase and the number of exchanges fitting the transaction in
flight (10_state.md R23 to R28). -/
def Obligations.StepKeepsTheInvariant : Prop :=
  ∀ s t : State, s.Inv → step s = .next t → t.Inv

/-- No step changes the parameters of the instance, RESET included (10_state.md R32, 70_reset_and_hazards.md R320). -/
def Obligations.StepKeepsTheConfiguration : Prop :=
  ∀ s t : State, step s = .next t → t.cfg = s.cfg

/-- OP, NAME, DEVID, COUNT and WV are written by no internal operation and by no transition of the sequencer; while BUSY
every step leaves them as they are, unless it takes a reset, which leaves them at their reset values (10_state.md R21,
R22, R34, R35; the first name code is the first list entry's, log 18). -/
def Obligations.OperandRegistersHoldDuringATransaction : Prop :=
  let same : State → State → Prop := fun s t =>
    t.op = s.op ∧ t.name = s.name ∧ t.devid = s.devid ∧ t.count = s.count ∧ t.wv = s.wv
  (∀ s : State, same s s.advance) ∧
  (∀ i (s t : State), isHostCommand i = false → exec i s = .next t → same s t) ∧
  (∀ s t : State, s.busy = true → resetPresented s = false → step s = .next t → same s t) ∧
  (∀ s t : State, resetPresented s = true → step s = .next t →
    t.op = 0 ∧ t.name = s.cfg.firstName ∧ t.devid = 0 ∧ t.count = 0 ∧ t.wv = ⟨0, 0, 0, 0, 0, 0⟩ ∧ t.busy = false ∧ t.seq = .idle)

/-- A step hands at most one frame to the transport, and only from the phase SEND, which it then leaves, or by a SEND issued
directly: no rule sends a request twice (46_transport_wait.md R265, 20_memory.md R78). -/
def Obligations.FramesAreSentOnlyFromTheSendPhase : Prop :=
  ∀ s t : State, step s = .next t →
    sentFrames t.outs = sentFrames s.outs ∨
    ∃ f, sentFrames t.outs = sentFrames s.outs ++ [f] ∧
      (s.seq = .send ∧ f = s.txbuf ∧ t.seq ≠ .send ∨
       ∃ image rest r, s.inputs = .issue image :: rest ∧ decode image = .ok (.send f, r))

/-- What FCODEC has put out stays: a step only appends to the trace, which is the model's own (log 22). -/
def Obligations.OutputsAreOnlyAppended : Prop :=
  ∀ s t : State, step s = .next t → ∃ new, t.outs = s.outs ++ new

/-- FINFO bit 1 is read from the phase, and the phase tells the truth: a step that begins a transaction leaves it clear;
every later step of the transaction, whatever input it takes, sets it exactly when it was set or the step's outputs hold a
frame answered Ok; so in every state a transaction passes through undisturbed from its first BUILD on, it is set exactly
when a frame handed over since then was answered Ok (60_exceptions.md R290; log 10). -/
def Obligations.PhaseTellsWhetherAFrameWasSent : Prop :=
  (∀ s t : State, s.busy = false → step s = .next t → t.busy = true → t.sendReturnedOk = false) ∧
  (∀ s t : State, s.busy = true → step s = .next t → t.busy = true →
    ∃ new, t.outs = s.outs ++ new ∧
      (t.sendReturnedOk = true ↔ s.sendReturnedOk = true ∨ ∃ f, Output.sent f .ok ∈ new)) ∧
  (∀ (k : Nat) (s t : State), s.inputs = [] → s.seq = .build → s.sb = 0 → s.busy = true →
    runsTo k s t → t.busy = true →
    ∃ new, t.outs = s.outs ++ new ∧
      (t.sendReturnedOk = true ↔ ∃ f, Output.sent f .ok ∈ new))

/-! ### The host's register indices -/

/-- H10 to H12 read the status, fault and count views, H13 to H18 the results that hold a value; a read changes nothing but
the trace; a result that holds no value, a write-only index and an unassigned index stop the read
(10_state.md R34, R23). The trace and the stops are the model's choice (log 14, log 15). -/
def Obligations.HostReadsTheListedRegisters : Prop :=
  ∀ (s : State) h rest, s.inputs = .hostRead h :: rest →
    let reads : Int → Prop := fun v =>
      step s = .next { s with inputs := rest, outs := s.outs ++ [.readData h v] }
    (h = 10 → reads
      ((if s.busy then 1 else 0) + (if s.done then 2 else 0) + (if s.err then 4 else 0))) ∧
    (h = 11 → reads (s.fault.toNat + 16 * s.finfo.toNat)) ∧
    (h = 12 → reads (s.rcount.toNat + (if s.rvalid then 8 else 0))) ∧
    (∀ i, h = 13 + i → i < 6 → s.rvalid = true → i < s.rcount.toNat → reads (s.rv.get i).toInt) ∧
    (∀ i, h = 13 + i → i < 6 → s.rvalid = false ∨ s.rcount.toNat ≤ i → step s = .fault (.readNoValue i)) ∧
    (h ≤ 9 → step s = .fault (.readOfWriteOnly h)) ∧
    (18 < h → step s = .fault (.noSuchIndex h))

/-- H0 presents the command made of H0 to H9; H1 to H9 load an operand register while idle and are ignored while BUSY; the
read-only and the unassigned indices stop the write (10_state.md R34). The low bits taken and the stops are the model's
choice (log 14, log 15). -/
def Obligations.HostWritesTheOperandRegisters : Prop :=
  ∀ (s : State) h v rest, s.inputs = .hostWrite h v :: rest →
    let u : State := { s with inputs := rest }
    (h = 0 → step s = present ⟨BitVec.ofNat 8 v, s.name, s.devid, s.count, s.wv⟩ u) ∧
    (1 ≤ h → h ≤ 9 → s.busy = true → step s = .next u) ∧
    (h = 1 → s.busy = false → step s = .next { u with name := BitVec.ofNat 8 v }) ∧
    (h = 2 → s.busy = false → step s = .next { u with devid := BitVec.ofNat 8 v }) ∧
    (h = 3 → s.busy = false → step s = .next { u with count := BitVec.ofNat 4 v }) ∧
    (∀ k, h = 4 + k → k < 6 → s.busy = false →
      step s = .next { u with wv := s.wv.set k (BitVec.ofNat 16 v) }) ∧
    (10 ≤ h → h ≤ 18 → step s = .fault (.writeOfReadOnly h)) ∧
    (18 < h → step s = .fault (.noSuchIndex h))
end

