-- ==== Sys2Proof/Laws/Bytes.lean ====
section
/-! SUPPORT. Small lemmas of the byte helpers of Machine/Bytes.lean. -/

namespace Sys2Proof

theorem lo8_toNat (x : Half) : (lo8 x).toNat = x.toNat % 256 := by
  simp [lo8]

theorem hi8_toNat (x : Half) : (hi8 x).toNat = x.toNat / 256 := by
  have h := x.isLt
  simp only [hi8, BitVec.toNat_ofNat]
  omega

@[simp] theorem u16le_lo8_hi8 (x : Half) : u16le (lo8 x) (hi8 x) = x := by
  apply BitVec.eq_of_toNat_eq
  have h := x.isLt
  simp only [u16le, BitVec.toNat_ofNat, lo8_toNat, hi8_toNat]
  omega

theorem u16le_toNat (a b : Byte) : (u16le a b).toNat = a.toNat + 256 * b.toNat := by
  have ha := a.isLt
  have hb := b.isLt
  simp only [u16le, BitVec.toNat_ofNat]
  omega

@[simp] theorem lo8_u16le (a b : Byte) : lo8 (u16le a b) = a := by
  apply BitVec.eq_of_toNat_eq
  have ha := a.isLt
  rw [lo8_toNat, u16le_toNat]
  omega

@[simp] theorem hi8_u16le (a b : Byte) : hi8 (u16le a b) = b := by
  apply BitVec.eq_of_toNat_eq
  have ha := a.isLt
  rw [hi8_toNat, u16le_toNat]
  omega

@[simp] theorem le16s_nil : le16s [] = [] := rfl

@[simp] theorem le16s_cons (v : Half) (vs : List Half) : le16s (v :: vs) = lo8 v :: hi8 v :: le16s vs := rfl

@[simp] theorem le16s_length (vs : List Half) : (le16s vs).length = 2 * vs.length := by
  induction vs with
  | nil => rfl
  | cons v vs ih => simp only [le16s_cons, List.length_cons, ih]; omega

@[simp] theorem u16s_le16s (vs : List Half) : u16s (le16s vs) = vs := by
  induction vs with
  | nil => rfl
  | cons v vs ih => simp [u16s, ih]

@[simp] theorem le32_length (x : BitVec 32) : (le32 x).length = 4 := rfl

@[simp] theorem u32le_le32 (x : BitVec 32) :
    u32le (BitVec.ofNat 8 (x.toNat % 256)) (BitVec.ofNat 8 (x.toNat / 2 ^ 8 % 256))
      (BitVec.ofNat 8 (x.toNat / 2 ^ 16 % 256)) (BitVec.ofNat 8 (x.toNat / 2 ^ 24 % 256)) = x := by
  apply BitVec.eq_of_toNat_eq
  have h := x.isLt
  simp only [u32le, BitVec.toNat_ofNat]
  omega

theorem byteSum_append (a b : List Byte) : byteSum (a ++ b) = byteSum a + byteSum b := by
  induction a with
  | nil => simp [byteSum]
  | cons x a ih => simp only [List.cons_append, byteSum, ih]; omega

theorem sum8_toNat (b : List Byte) : (sum8 b).toNat = byteSum b % 256 := by
  simp [sum8]

@[simp] theorem stuff_nil : stuff [] = [] := rfl

theorem stuff_reserved (x : Byte) (b : List Byte) (h : isReserved x = true) :
    stuff (x :: b) = esc :: x :: stuff b := by
  simp [stuff, h]

theorem stuff_plain (x : Byte) (b : List Byte) (h : isReserved x = false) : stuff (x :: b) = x :: stuff b := by
  simp [stuff, h]

theorem stuff_append (a b : List Byte) : stuff (a ++ b) = stuff a ++ stuff b := by
  induction a with
  | nil => rfl
  | cons x a ih => cases h : isReserved x <;> simp [stuff, h, ih]

theorem stuff_length_le (b : List Byte) : (stuff b).length ≤ 2 * b.length := by
  induction b with
  | nil => simp
  | cons x b ih => cases h : isReserved x <;> simp [stuff, h] <;> omega

/-- A byte that is not reserved is not the escape byte. -/
theorem ne_esc_of_not_reserved (x : Byte) (h : isReserved x = false) : x ≠ esc := by
  rintro rfl
  exact absurd h (by decide)

end Sys2Proof
end

