-- ==== Sys2Proof/Laws/State.lean ====
section
/-! SUPPORT. What each named update of the state leaves in each field: one lemma per field and update, so that no proof
unfolds a record update. -/

namespace Sys2Proof.Machine

/-! ### `State.emit` -/

@[simp] theorem State.emit_op (s : State) (o : Output) : (s.emit o).op = s.op := rfl
@[simp] theorem State.emit_name (s : State) (o : Output) : (s.emit o).name = s.name := rfl
@[simp] theorem State.emit_devid (s : State) (o : Output) : (s.emit o).devid = s.devid := rfl
@[simp] theorem State.emit_count (s : State) (o : Output) : (s.emit o).count = s.count := rfl
@[simp] theorem State.emit_wv (s : State) (o : Output) : (s.emit o).wv = s.wv := rfl
@[simp] theorem State.emit_rv (s : State) (o : Output) : (s.emit o).rv = s.rv := rfl
@[simp] theorem State.emit_rcount (s : State) (o : Output) : (s.emit o).rcount = s.rcount := rfl
@[simp] theorem State.emit_rvalid (s : State) (o : Output) : (s.emit o).rvalid = s.rvalid := rfl
@[simp] theorem State.emit_busy (s : State) (o : Output) : (s.emit o).busy = s.busy := rfl
@[simp] theorem State.emit_done (s : State) (o : Output) : (s.emit o).done = s.done := rfl
@[simp] theorem State.emit_err (s : State) (o : Output) : (s.emit o).err = s.err := rfl
@[simp] theorem State.emit_fault (s : State) (o : Output) : (s.emit o).fault = s.fault := rfl
@[simp] theorem State.emit_finfo (s : State) (o : Output) : (s.emit o).finfo = s.finfo := rfl
@[simp] theorem State.emit_seq (s : State) (o : Output) : (s.emit o).seq = s.seq := rfl
@[simp] theorem State.emit_sb (s : State) (o : Output) : (s.emit o).sb = s.sb := rfl
@[simp] theorem State.emit_nsb (s : State) (o : Output) : (s.emit o).nsb = s.nsb := rfl
@[simp] theorem State.emit_tries (s : State) (o : Output) : (s.emit o).tries = s.tries := rfl
@[simp] theorem State.emit_addr (s : State) (o : Output) : (s.emit o).addr = s.addr := rfl
@[simp] theorem State.emit_cls (s : State) (o : Output) : (s.emit o).cls = s.cls := rfl
@[simp] theorem State.emit_txbuf (s : State) (o : Output) : (s.emit o).txbuf = s.txbuf := rfl
@[simp] theorem State.emit_rxbuf (s : State) (o : Output) : (s.emit o).rxbuf = s.rxbuf := rfl
@[simp] theorem State.emit_acc (s : State) (o : Output) : (s.emit o).acc = s.acc := rfl
@[simp] theorem State.emit_escp (s : State) (o : Output) : (s.emit o).escp = s.escp := rfl
@[simp] theorem State.emit_start (s : State) (o : Output) : (s.emit o).start = s.start := rfl
@[simp] theorem State.emit_stg (s : State) (o : Output) : (s.emit o).stg = s.stg := rfl
@[simp] theorem State.emit_cfg (s : State) (o : Output) : (s.emit o).cfg = s.cfg := rfl
@[simp] theorem State.emit_inputs (s : State) (o : Output) : (s.emit o).inputs = s.inputs := rfl
@[simp] theorem State.emit_sendAns (s : State) (o : Output) : (s.emit o).sendAns = s.sendAns := rfl
@[simp] theorem State.emit_recvAns (s : State) (o : Output) : (s.emit o).recvAns = s.recvAns := rfl
@[simp] theorem State.emit_draws (s : State) (o : Output) : (s.emit o).draws = s.draws := rfl
@[simp] theorem State.emit_outs (s : State) (o : Output) : (s.emit o).outs = s.outs ++ [o] := rfl
@[simp] theorem State.emit_res (s : State) (o : Output) : (s.emit o).res = s.res := rfl

/-! ### `State.refuseBusy` -/

@[simp] theorem State.refuseBusy_op (s : State) : (s.refuseBusy).op = s.op := rfl
@[simp] theorem State.refuseBusy_name (s : State) : (s.refuseBusy).name = s.name := rfl
@[simp] theorem State.refuseBusy_devid (s : State) : (s.refuseBusy).devid = s.devid := rfl
@[simp] theorem State.refuseBusy_count (s : State) : (s.refuseBusy).count = s.count := rfl
@[simp] theorem State.refuseBusy_wv (s : State) : (s.refuseBusy).wv = s.wv := rfl
@[simp] theorem State.refuseBusy_rv (s : State) : (s.refuseBusy).rv = s.rv := rfl
@[simp] theorem State.refuseBusy_rcount (s : State) : (s.refuseBusy).rcount = s.rcount := rfl
@[simp] theorem State.refuseBusy_rvalid (s : State) : (s.refuseBusy).rvalid = s.rvalid := rfl
@[simp] theorem State.refuseBusy_busy (s : State) : (s.refuseBusy).busy = s.busy := rfl
@[simp] theorem State.refuseBusy_done (s : State) : (s.refuseBusy).done = s.done := rfl
@[simp] theorem State.refuseBusy_err (s : State) : (s.refuseBusy).err = s.err := rfl
@[simp] theorem State.refuseBusy_fault (s : State) : (s.refuseBusy).fault = s.fault := rfl
@[simp] theorem State.refuseBusy_finfo (s : State) : (s.refuseBusy).finfo = s.finfo := rfl
@[simp] theorem State.refuseBusy_seq (s : State) : (s.refuseBusy).seq = s.seq := rfl
@[simp] theorem State.refuseBusy_sb (s : State) : (s.refuseBusy).sb = s.sb := rfl
@[simp] theorem State.refuseBusy_nsb (s : State) : (s.refuseBusy).nsb = s.nsb := rfl
@[simp] theorem State.refuseBusy_tries (s : State) : (s.refuseBusy).tries = s.tries := rfl
@[simp] theorem State.refuseBusy_addr (s : State) : (s.refuseBusy).addr = s.addr := rfl
@[simp] theorem State.refuseBusy_cls (s : State) : (s.refuseBusy).cls = s.cls := rfl
@[simp] theorem State.refuseBusy_txbuf (s : State) : (s.refuseBusy).txbuf = s.txbuf := rfl
@[simp] theorem State.refuseBusy_rxbuf (s : State) : (s.refuseBusy).rxbuf = s.rxbuf := rfl
@[simp] theorem State.refuseBusy_acc (s : State) : (s.refuseBusy).acc = s.acc := rfl
@[simp] theorem State.refuseBusy_escp (s : State) : (s.refuseBusy).escp = s.escp := rfl
@[simp] theorem State.refuseBusy_start (s : State) : (s.refuseBusy).start = s.start := rfl
@[simp] theorem State.refuseBusy_stg (s : State) : (s.refuseBusy).stg = s.stg := rfl
@[simp] theorem State.refuseBusy_cfg (s : State) : (s.refuseBusy).cfg = s.cfg := rfl
@[simp] theorem State.refuseBusy_inputs (s : State) : (s.refuseBusy).inputs = s.inputs := rfl
@[simp] theorem State.refuseBusy_sendAns (s : State) : (s.refuseBusy).sendAns = s.sendAns := rfl
@[simp] theorem State.refuseBusy_recvAns (s : State) : (s.refuseBusy).recvAns = s.recvAns := rfl
@[simp] theorem State.refuseBusy_draws (s : State) : (s.refuseBusy).draws = s.draws := rfl
@[simp] theorem State.refuseBusy_outs (s : State) : (s.refuseBusy).outs = s.outs ++ [.refusedBusy] := rfl
@[simp] theorem State.refuseBusy_res (s : State) : (s.refuseBusy).res = s.res := rfl

/-! ### `State.raise` -/

@[simp] theorem State.raise_op (s : State) (c : Cause) : (s.raise c).op = s.op := rfl
@[simp] theorem State.raise_name (s : State) (c : Cause) : (s.raise c).name = s.name := rfl
@[simp] theorem State.raise_devid (s : State) (c : Cause) : (s.raise c).devid = s.devid := rfl
@[simp] theorem State.raise_count (s : State) (c : Cause) : (s.raise c).count = s.count := rfl
@[simp] theorem State.raise_wv (s : State) (c : Cause) : (s.raise c).wv = s.wv := rfl
@[simp] theorem State.raise_rv (s : State) (c : Cause) : (s.raise c).rv = s.rv := rfl
@[simp] theorem State.raise_rcount (s : State) (c : Cause) : (s.raise c).rcount = s.rcount := rfl
@[simp] theorem State.raise_rvalid (s : State) (c : Cause) : (s.raise c).rvalid = s.rvalid := rfl
@[simp] theorem State.raise_busy (s : State) (c : Cause) : (s.raise c).busy = false := rfl
@[simp] theorem State.raise_done (s : State) (c : Cause) : (s.raise c).done = true := rfl
@[simp] theorem State.raise_err (s : State) (c : Cause) : (s.raise c).err = true := rfl
@[simp] theorem State.raise_fault (s : State) (c : Cause) : (s.raise c).fault = c.code := rfl
@[simp] theorem State.raise_finfo (s : State) (c : Cause) : (s.raise c).finfo = s.finfoNow := rfl
@[simp] theorem State.raise_seq (s : State) (c : Cause) : (s.raise c).seq = .idle := rfl
@[simp] theorem State.raise_sb (s : State) (c : Cause) : (s.raise c).sb = s.sb := rfl
@[simp] theorem State.raise_nsb (s : State) (c : Cause) : (s.raise c).nsb = s.nsb := rfl
@[simp] theorem State.raise_tries (s : State) (c : Cause) : (s.raise c).tries = s.tries := rfl
@[simp] theorem State.raise_addr (s : State) (c : Cause) : (s.raise c).addr = s.addr := rfl
@[simp] theorem State.raise_cls (s : State) (c : Cause) : (s.raise c).cls = s.cls := rfl
@[simp] theorem State.raise_txbuf (s : State) (c : Cause) : (s.raise c).txbuf = s.txbuf := rfl
@[simp] theorem State.raise_rxbuf (s : State) (c : Cause) : (s.raise c).rxbuf = s.rxbuf := rfl
@[simp] theorem State.raise_acc (s : State) (c : Cause) : (s.raise c).acc = s.acc := rfl
@[simp] theorem State.raise_escp (s : State) (c : Cause) : (s.raise c).escp = s.escp := rfl
@[simp] theorem State.raise_start (s : State) (c : Cause) : (s.raise c).start = s.start := rfl
@[simp] theorem State.raise_stg (s : State) (c : Cause) : (s.raise c).stg = s.stg := rfl
@[simp] theorem State.raise_cfg (s : State) (c : Cause) : (s.raise c).cfg = s.cfg := rfl
@[simp] theorem State.raise_inputs (s : State) (c : Cause) : (s.raise c).inputs = s.inputs := rfl
@[simp] theorem State.raise_sendAns (s : State) (c : Cause) : (s.raise c).sendAns = s.sendAns := rfl
@[simp] theorem State.raise_recvAns (s : State) (c : Cause) : (s.raise c).recvAns = s.recvAns := rfl
@[simp] theorem State.raise_draws (s : State) (c : Cause) : (s.raise c).draws = s.draws := rfl
@[simp] theorem State.raise_outs (s : State) (c : Cause) :
    (s.raise c).outs = s.outs ++ [.completion ⟨false, c.code, s.finfoNow, 0, []⟩] := rfl
@[simp] theorem State.raise_res (s : State) (c : Cause) : (s.raise c).res = s.res := rfl

/-! ### `State.clearForCommand` -/

@[simp] theorem State.clearForCommand_op (s : State) : (s.clearForCommand).op = s.op := rfl
@[simp] theorem State.clearForCommand_name (s : State) : (s.clearForCommand).name = s.name := rfl
@[simp] theorem State.clearForCommand_devid (s : State) : (s.clearForCommand).devid = s.devid := rfl
@[simp] theorem State.clearForCommand_count (s : State) : (s.clearForCommand).count = s.count := rfl
@[simp] theorem State.clearForCommand_wv (s : State) : (s.clearForCommand).wv = s.wv := rfl
@[simp] theorem State.clearForCommand_rv (s : State) : (s.clearForCommand).rv = s.rv := rfl
@[simp] theorem State.clearForCommand_rcount (s : State) : (s.clearForCommand).rcount = 0 := rfl
@[simp] theorem State.clearForCommand_rvalid (s : State) : (s.clearForCommand).rvalid = false := rfl
@[simp] theorem State.clearForCommand_busy (s : State) : (s.clearForCommand).busy = true := rfl
@[simp] theorem State.clearForCommand_done (s : State) : (s.clearForCommand).done = false := rfl
@[simp] theorem State.clearForCommand_err (s : State) : (s.clearForCommand).err = false := rfl
@[simp] theorem State.clearForCommand_fault (s : State) : (s.clearForCommand).fault = 0 := rfl
@[simp] theorem State.clearForCommand_finfo (s : State) : (s.clearForCommand).finfo = 0 := rfl
@[simp] theorem State.clearForCommand_seq (s : State) : (s.clearForCommand).seq = .idle := rfl
@[simp] theorem State.clearForCommand_sb (s : State) : (s.clearForCommand).sb = 0 := rfl
@[simp] theorem State.clearForCommand_nsb (s : State) : (s.clearForCommand).nsb = s.nsb := rfl
@[simp] theorem State.clearForCommand_tries (s : State) : (s.clearForCommand).tries = s.tries := rfl
@[simp] theorem State.clearForCommand_addr (s : State) : (s.clearForCommand).addr = s.addr := rfl
@[simp] theorem State.clearForCommand_cls (s : State) : (s.clearForCommand).cls = s.cls := rfl
@[simp] theorem State.clearForCommand_txbuf (s : State) : (s.clearForCommand).txbuf = s.txbuf := rfl
@[simp] theorem State.clearForCommand_rxbuf (s : State) : (s.clearForCommand).rxbuf = s.rxbuf := rfl
@[simp] theorem State.clearForCommand_acc (s : State) : (s.clearForCommand).acc = s.acc := rfl
@[simp] theorem State.clearForCommand_escp (s : State) : (s.clearForCommand).escp = s.escp := rfl
@[simp] theorem State.clearForCommand_start (s : State) : (s.clearForCommand).start = s.start := rfl
@[simp] theorem State.clearForCommand_stg (s : State) : (s.clearForCommand).stg = s.stg := rfl
@[simp] theorem State.clearForCommand_cfg (s : State) : (s.clearForCommand).cfg = s.cfg := rfl
@[simp] theorem State.clearForCommand_inputs (s : State) : (s.clearForCommand).inputs = s.inputs := rfl
@[simp] theorem State.clearForCommand_sendAns (s : State) : (s.clearForCommand).sendAns = s.sendAns := rfl
@[simp] theorem State.clearForCommand_recvAns (s : State) : (s.clearForCommand).recvAns = s.recvAns := rfl
@[simp] theorem State.clearForCommand_draws (s : State) : (s.clearForCommand).draws = s.draws := rfl
@[simp] theorem State.clearForCommand_outs (s : State) : (s.clearForCommand).outs = s.outs := rfl
@[simp] theorem State.clearForCommand_res (s : State) : (s.clearForCommand).res = s.res := rfl

/-! ### `State.accept` -/

@[simp] theorem State.accept_op (s : State) (c : Command) : (s.accept c).op = c.op := rfl
@[simp] theorem State.accept_name (s : State) (c : Command) : (s.accept c).name = c.name := rfl
@[simp] theorem State.accept_devid (s : State) (c : Command) : (s.accept c).devid = c.dev := rfl
@[simp] theorem State.accept_count (s : State) (c : Command) : (s.accept c).count = c.count := rfl
@[simp] theorem State.accept_wv (s : State) (c : Command) : (s.accept c).wv = c.values := rfl
@[simp] theorem State.accept_rv (s : State) (c : Command) : (s.accept c).rv = s.rv := rfl
@[simp] theorem State.accept_rcount (s : State) (c : Command) : (s.accept c).rcount = 0 := rfl
@[simp] theorem State.accept_rvalid (s : State) (c : Command) : (s.accept c).rvalid = false := rfl
@[simp] theorem State.accept_busy (s : State) (c : Command) : (s.accept c).busy = true := rfl
@[simp] theorem State.accept_done (s : State) (c : Command) : (s.accept c).done = false := rfl
@[simp] theorem State.accept_err (s : State) (c : Command) : (s.accept c).err = false := rfl
@[simp] theorem State.accept_fault (s : State) (c : Command) : (s.accept c).fault = 0 := rfl
@[simp] theorem State.accept_finfo (s : State) (c : Command) : (s.accept c).finfo = 0 := rfl
@[simp] theorem State.accept_seq (s : State) (c : Command) : (s.accept c).seq = .idle := rfl
@[simp] theorem State.accept_sb (s : State) (c : Command) : (s.accept c).sb = 0 := rfl
@[simp] theorem State.accept_nsb (s : State) (c : Command) : (s.accept c).nsb = s.nsb := rfl
@[simp] theorem State.accept_tries (s : State) (c : Command) : (s.accept c).tries = s.tries := rfl
@[simp] theorem State.accept_addr (s : State) (c : Command) : (s.accept c).addr = s.addr := rfl
@[simp] theorem State.accept_cls (s : State) (c : Command) : (s.accept c).cls = s.cls := rfl
@[simp] theorem State.accept_txbuf (s : State) (c : Command) : (s.accept c).txbuf = s.txbuf := rfl
@[simp] theorem State.accept_rxbuf (s : State) (c : Command) : (s.accept c).rxbuf = s.rxbuf := rfl
@[simp] theorem State.accept_acc (s : State) (c : Command) : (s.accept c).acc = s.acc := rfl
@[simp] theorem State.accept_escp (s : State) (c : Command) : (s.accept c).escp = s.escp := rfl
@[simp] theorem State.accept_start (s : State) (c : Command) : (s.accept c).start = s.start := rfl
@[simp] theorem State.accept_stg (s : State) (c : Command) : (s.accept c).stg = s.stg := rfl
@[simp] theorem State.accept_cfg (s : State) (c : Command) : (s.accept c).cfg = s.cfg := rfl
@[simp] theorem State.accept_inputs (s : State) (c : Command) : (s.accept c).inputs = s.inputs := rfl
@[simp] theorem State.accept_sendAns (s : State) (c : Command) : (s.accept c).sendAns = s.sendAns := rfl
@[simp] theorem State.accept_recvAns (s : State) (c : Command) : (s.accept c).recvAns = s.recvAns := rfl
@[simp] theorem State.accept_draws (s : State) (c : Command) : (s.accept c).draws = s.draws := rfl
@[simp] theorem State.accept_outs (s : State) (c : Command) : (s.accept c).outs = s.outs := rfl
@[simp] theorem State.accept_res (s : State) (c : Command) : (s.accept c).res = s.res := rfl

/-! ### `State.complete` -/

@[simp] theorem State.complete_op (s : State) : (s.complete).op = s.op := rfl
@[simp] theorem State.complete_name (s : State) : (s.complete).name = s.name := rfl
@[simp] theorem State.complete_devid (s : State) : (s.complete).devid = s.devid := rfl
@[simp] theorem State.complete_count (s : State) : (s.complete).count = s.count := rfl
@[simp] theorem State.complete_wv (s : State) : (s.complete).wv = s.wv := rfl
@[simp] theorem State.complete_rv (s : State) : (s.complete).rv = s.rv := rfl
@[simp] theorem State.complete_rcount (s : State) : (s.complete).rcount = s.rcount := rfl
@[simp] theorem State.complete_rvalid (s : State) : (s.complete).rvalid = s.rvalid := rfl
@[simp] theorem State.complete_busy (s : State) : (s.complete).busy = false := rfl
@[simp] theorem State.complete_done (s : State) : (s.complete).done = true := rfl
@[simp] theorem State.complete_err (s : State) : (s.complete).err = false := rfl
@[simp] theorem State.complete_fault (s : State) : (s.complete).fault = 0 := rfl
@[simp] theorem State.complete_finfo (s : State) : (s.complete).finfo = 0 := rfl
@[simp] theorem State.complete_seq (s : State) : (s.complete).seq = .idle := rfl
@[simp] theorem State.complete_sb (s : State) : (s.complete).sb = s.sb := rfl
@[simp] theorem State.complete_nsb (s : State) : (s.complete).nsb = s.nsb := rfl
@[simp] theorem State.complete_tries (s : State) : (s.complete).tries = s.tries := rfl
@[simp] theorem State.complete_addr (s : State) : (s.complete).addr = s.addr := rfl
@[simp] theorem State.complete_cls (s : State) : (s.complete).cls = s.cls := rfl
@[simp] theorem State.complete_txbuf (s : State) : (s.complete).txbuf = s.txbuf := rfl
@[simp] theorem State.complete_rxbuf (s : State) : (s.complete).rxbuf = s.rxbuf := rfl
@[simp] theorem State.complete_acc (s : State) : (s.complete).acc = s.acc := rfl
@[simp] theorem State.complete_escp (s : State) : (s.complete).escp = s.escp := rfl
@[simp] theorem State.complete_start (s : State) : (s.complete).start = s.start := rfl
@[simp] theorem State.complete_stg (s : State) : (s.complete).stg = s.stg := rfl
@[simp] theorem State.complete_cfg (s : State) : (s.complete).cfg = s.cfg := rfl
@[simp] theorem State.complete_inputs (s : State) : (s.complete).inputs = s.inputs := rfl
@[simp] theorem State.complete_sendAns (s : State) : (s.complete).sendAns = s.sendAns := rfl
@[simp] theorem State.complete_recvAns (s : State) : (s.complete).recvAns = s.recvAns := rfl
@[simp] theorem State.complete_draws (s : State) : (s.complete).draws = s.draws := rfl
@[simp] theorem State.complete_outs (s : State) :
    (s.complete).outs = s.outs ++ [.completion ⟨true, 0, 0, s.rcount, s.rv.toList.take s.rcount.toNat⟩] := rfl
@[simp] theorem State.complete_res (s : State) : (s.complete).res = s.res := rfl

/-! ### `State.cksumClear` -/

@[simp] theorem State.cksumClear_op (s : State) : (s.cksumClear).op = s.op := rfl
@[simp] theorem State.cksumClear_name (s : State) : (s.cksumClear).name = s.name := rfl
@[simp] theorem State.cksumClear_devid (s : State) : (s.cksumClear).devid = s.devid := rfl
@[simp] theorem State.cksumClear_count (s : State) : (s.cksumClear).count = s.count := rfl
@[simp] theorem State.cksumClear_wv (s : State) : (s.cksumClear).wv = s.wv := rfl
@[simp] theorem State.cksumClear_rv (s : State) : (s.cksumClear).rv = s.rv := rfl
@[simp] theorem State.cksumClear_rcount (s : State) : (s.cksumClear).rcount = s.rcount := rfl
@[simp] theorem State.cksumClear_rvalid (s : State) : (s.cksumClear).rvalid = s.rvalid := rfl
@[simp] theorem State.cksumClear_busy (s : State) : (s.cksumClear).busy = s.busy := rfl
@[simp] theorem State.cksumClear_done (s : State) : (s.cksumClear).done = s.done := rfl
@[simp] theorem State.cksumClear_err (s : State) : (s.cksumClear).err = s.err := rfl
@[simp] theorem State.cksumClear_fault (s : State) : (s.cksumClear).fault = s.fault := rfl
@[simp] theorem State.cksumClear_finfo (s : State) : (s.cksumClear).finfo = s.finfo := rfl
@[simp] theorem State.cksumClear_seq (s : State) : (s.cksumClear).seq = s.seq := rfl
@[simp] theorem State.cksumClear_sb (s : State) : (s.cksumClear).sb = s.sb := rfl
@[simp] theorem State.cksumClear_nsb (s : State) : (s.cksumClear).nsb = s.nsb := rfl
@[simp] theorem State.cksumClear_tries (s : State) : (s.cksumClear).tries = s.tries := rfl
@[simp] theorem State.cksumClear_addr (s : State) : (s.cksumClear).addr = s.addr := rfl
@[simp] theorem State.cksumClear_cls (s : State) : (s.cksumClear).cls = s.cls := rfl
@[simp] theorem State.cksumClear_txbuf (s : State) : (s.cksumClear).txbuf = s.txbuf := rfl
@[simp] theorem State.cksumClear_rxbuf (s : State) : (s.cksumClear).rxbuf = s.rxbuf := rfl
@[simp] theorem State.cksumClear_acc (s : State) : (s.cksumClear).acc = 0 := rfl
@[simp] theorem State.cksumClear_escp (s : State) : (s.cksumClear).escp = s.escp := rfl
@[simp] theorem State.cksumClear_start (s : State) : (s.cksumClear).start = s.start := rfl
@[simp] theorem State.cksumClear_stg (s : State) : (s.cksumClear).stg = s.stg := rfl
@[simp] theorem State.cksumClear_cfg (s : State) : (s.cksumClear).cfg = s.cfg := rfl
@[simp] theorem State.cksumClear_inputs (s : State) : (s.cksumClear).inputs = s.inputs := rfl
@[simp] theorem State.cksumClear_sendAns (s : State) : (s.cksumClear).sendAns = s.sendAns := rfl
@[simp] theorem State.cksumClear_recvAns (s : State) : (s.cksumClear).recvAns = s.recvAns := rfl
@[simp] theorem State.cksumClear_draws (s : State) : (s.cksumClear).draws = s.draws := rfl
@[simp] theorem State.cksumClear_outs (s : State) : (s.cksumClear).outs = s.outs := rfl
@[simp] theorem State.cksumClear_res (s : State) : (s.cksumClear).res = s.res := rfl

/-! ### `State.cksumAdd` -/

@[simp] theorem State.cksumAdd_op (s : State) (x : Byte) : (s.cksumAdd x).op = s.op := rfl
@[simp] theorem State.cksumAdd_name (s : State) (x : Byte) : (s.cksumAdd x).name = s.name := rfl
@[simp] theorem State.cksumAdd_devid (s : State) (x : Byte) : (s.cksumAdd x).devid = s.devid := rfl
@[simp] theorem State.cksumAdd_count (s : State) (x : Byte) : (s.cksumAdd x).count = s.count := rfl
@[simp] theorem State.cksumAdd_wv (s : State) (x : Byte) : (s.cksumAdd x).wv = s.wv := rfl
@[simp] theorem State.cksumAdd_rv (s : State) (x : Byte) : (s.cksumAdd x).rv = s.rv := rfl
@[simp] theorem State.cksumAdd_rcount (s : State) (x : Byte) : (s.cksumAdd x).rcount = s.rcount := rfl
@[simp] theorem State.cksumAdd_rvalid (s : State) (x : Byte) : (s.cksumAdd x).rvalid = s.rvalid := rfl
@[simp] theorem State.cksumAdd_busy (s : State) (x : Byte) : (s.cksumAdd x).busy = s.busy := rfl
@[simp] theorem State.cksumAdd_done (s : State) (x : Byte) : (s.cksumAdd x).done = s.done := rfl
@[simp] theorem State.cksumAdd_err (s : State) (x : Byte) : (s.cksumAdd x).err = s.err := rfl
@[simp] theorem State.cksumAdd_fault (s : State) (x : Byte) : (s.cksumAdd x).fault = s.fault := rfl
@[simp] theorem State.cksumAdd_finfo (s : State) (x : Byte) : (s.cksumAdd x).finfo = s.finfo := rfl
@[simp] theorem State.cksumAdd_seq (s : State) (x : Byte) : (s.cksumAdd x).seq = s.seq := rfl
@[simp] theorem State.cksumAdd_sb (s : State) (x : Byte) : (s.cksumAdd x).sb = s.sb := rfl
@[simp] theorem State.cksumAdd_nsb (s : State) (x : Byte) : (s.cksumAdd x).nsb = s.nsb := rfl
@[simp] theorem State.cksumAdd_tries (s : State) (x : Byte) : (s.cksumAdd x).tries = s.tries := rfl
@[simp] theorem State.cksumAdd_addr (s : State) (x : Byte) : (s.cksumAdd x).addr = s.addr := rfl
@[simp] theorem State.cksumAdd_cls (s : State) (x : Byte) : (s.cksumAdd x).cls = s.cls := rfl
@[simp] theorem State.cksumAdd_txbuf (s : State) (x : Byte) : (s.cksumAdd x).txbuf = s.txbuf := rfl
@[simp] theorem State.cksumAdd_rxbuf (s : State) (x : Byte) : (s.cksumAdd x).rxbuf = s.rxbuf := rfl
@[simp] theorem State.cksumAdd_acc (s : State) (x : Byte) :
    (s.cksumAdd x).acc = BitVec.ofNat 8 ((s.acc.toNat + x.toNat) % 256) := rfl
@[simp] theorem State.cksumAdd_escp (s : State) (x : Byte) : (s.cksumAdd x).escp = s.escp := rfl
@[simp] theorem State.cksumAdd_start (s : State) (x : Byte) : (s.cksumAdd x).start = s.start := rfl
@[simp] theorem State.cksumAdd_stg (s : State) (x : Byte) : (s.cksumAdd x).stg = s.stg := rfl
@[simp] theorem State.cksumAdd_cfg (s : State) (x : Byte) : (s.cksumAdd x).cfg = s.cfg := rfl
@[simp] theorem State.cksumAdd_inputs (s : State) (x : Byte) : (s.cksumAdd x).inputs = s.inputs := rfl
@[simp] theorem State.cksumAdd_sendAns (s : State) (x : Byte) : (s.cksumAdd x).sendAns = s.sendAns := rfl
@[simp] theorem State.cksumAdd_recvAns (s : State) (x : Byte) : (s.cksumAdd x).recvAns = s.recvAns := rfl
@[simp] theorem State.cksumAdd_draws (s : State) (x : Byte) : (s.cksumAdd x).draws = s.draws := rfl
@[simp] theorem State.cksumAdd_outs (s : State) (x : Byte) : (s.cksumAdd x).outs = s.outs := rfl
@[simp] theorem State.cksumAdd_res (s : State) (x : Byte) : (s.cksumAdd x).res = s.res := rfl

/-! ### `State.putTx` -/

@[simp] theorem State.putTx_op (s : State) (f : List Byte) : (s.putTx f).op = s.op := rfl
@[simp] theorem State.putTx_name (s : State) (f : List Byte) : (s.putTx f).name = s.name := rfl
@[simp] theorem State.putTx_devid (s : State) (f : List Byte) : (s.putTx f).devid = s.devid := rfl
@[simp] theorem State.putTx_count (s : State) (f : List Byte) : (s.putTx f).count = s.count := rfl
@[simp] theorem State.putTx_wv (s : State) (f : List Byte) : (s.putTx f).wv = s.wv := rfl
@[simp] theorem State.putTx_rv (s : State) (f : List Byte) : (s.putTx f).rv = s.rv := rfl
@[simp] theorem State.putTx_rcount (s : State) (f : List Byte) : (s.putTx f).rcount = s.rcount := rfl
@[simp] theorem State.putTx_rvalid (s : State) (f : List Byte) : (s.putTx f).rvalid = s.rvalid := rfl
@[simp] theorem State.putTx_busy (s : State) (f : List Byte) : (s.putTx f).busy = s.busy := rfl
@[simp] theorem State.putTx_done (s : State) (f : List Byte) : (s.putTx f).done = s.done := rfl
@[simp] theorem State.putTx_err (s : State) (f : List Byte) : (s.putTx f).err = s.err := rfl
@[simp] theorem State.putTx_fault (s : State) (f : List Byte) : (s.putTx f).fault = s.fault := rfl
@[simp] theorem State.putTx_finfo (s : State) (f : List Byte) : (s.putTx f).finfo = s.finfo := rfl
@[simp] theorem State.putTx_seq (s : State) (f : List Byte) : (s.putTx f).seq = s.seq := rfl
@[simp] theorem State.putTx_sb (s : State) (f : List Byte) : (s.putTx f).sb = s.sb := rfl
@[simp] theorem State.putTx_nsb (s : State) (f : List Byte) : (s.putTx f).nsb = s.nsb := rfl
@[simp] theorem State.putTx_tries (s : State) (f : List Byte) : (s.putTx f).tries = s.tries := rfl
@[simp] theorem State.putTx_addr (s : State) (f : List Byte) : (s.putTx f).addr = s.addr := rfl
@[simp] theorem State.putTx_cls (s : State) (f : List Byte) : (s.putTx f).cls = s.cls := rfl
@[simp] theorem State.putTx_txbuf (s : State) (f : List Byte) : (s.putTx f).txbuf = f := rfl
@[simp] theorem State.putTx_rxbuf (s : State) (f : List Byte) : (s.putTx f).rxbuf = s.rxbuf := rfl
@[simp] theorem State.putTx_acc (s : State) (f : List Byte) : (s.putTx f).acc = s.acc := rfl
@[simp] theorem State.putTx_escp (s : State) (f : List Byte) : (s.putTx f).escp = s.escp := rfl
@[simp] theorem State.putTx_start (s : State) (f : List Byte) : (s.putTx f).start = s.start := rfl
@[simp] theorem State.putTx_stg (s : State) (f : List Byte) : (s.putTx f).stg = s.stg := rfl
@[simp] theorem State.putTx_cfg (s : State) (f : List Byte) : (s.putTx f).cfg = s.cfg := rfl
@[simp] theorem State.putTx_inputs (s : State) (f : List Byte) : (s.putTx f).inputs = s.inputs := rfl
@[simp] theorem State.putTx_sendAns (s : State) (f : List Byte) : (s.putTx f).sendAns = s.sendAns := rfl
@[simp] theorem State.putTx_recvAns (s : State) (f : List Byte) : (s.putTx f).recvAns = s.recvAns := rfl
@[simp] theorem State.putTx_draws (s : State) (f : List Byte) : (s.putTx f).draws = s.draws := rfl
@[simp] theorem State.putTx_outs (s : State) (f : List Byte) : (s.putTx f).outs = s.outs := rfl
@[simp] theorem State.putTx_res (s : State) (f : List Byte) : (s.putTx f).res = s.res := rfl

/-! ### `State.nextExchange` -/

@[simp] theorem State.nextExchange_op (s : State) : (s.nextExchange).op = s.op := rfl
@[simp] theorem State.nextExchange_name (s : State) : (s.nextExchange).name = s.name := rfl
@[simp] theorem State.nextExchange_devid (s : State) : (s.nextExchange).devid = s.devid := rfl
@[simp] theorem State.nextExchange_count (s : State) : (s.nextExchange).count = s.count := rfl
@[simp] theorem State.nextExchange_wv (s : State) : (s.nextExchange).wv = s.wv := rfl
@[simp] theorem State.nextExchange_rv (s : State) : (s.nextExchange).rv = s.rv := rfl
@[simp] theorem State.nextExchange_rcount (s : State) : (s.nextExchange).rcount = s.rcount := rfl
@[simp] theorem State.nextExchange_rvalid (s : State) : (s.nextExchange).rvalid = s.rvalid := rfl
@[simp] theorem State.nextExchange_busy (s : State) : (s.nextExchange).busy = s.busy := rfl
@[simp] theorem State.nextExchange_done (s : State) : (s.nextExchange).done = s.done := rfl
@[simp] theorem State.nextExchange_err (s : State) : (s.nextExchange).err = s.err := rfl
@[simp] theorem State.nextExchange_fault (s : State) : (s.nextExchange).fault = s.fault := rfl
@[simp] theorem State.nextExchange_finfo (s : State) : (s.nextExchange).finfo = s.finfo := rfl
@[simp] theorem State.nextExchange_seq (s : State) : (s.nextExchange).seq = .build := rfl
@[simp] theorem State.nextExchange_sb (s : State) : (s.nextExchange).sb = 1 := rfl
@[simp] theorem State.nextExchange_nsb (s : State) : (s.nextExchange).nsb = s.nsb := rfl
@[simp] theorem State.nextExchange_tries (s : State) : (s.nextExchange).tries = s.tries := rfl
@[simp] theorem State.nextExchange_addr (s : State) : (s.nextExchange).addr = s.addr := rfl
@[simp] theorem State.nextExchange_cls (s : State) : (s.nextExchange).cls = s.cls := rfl
@[simp] theorem State.nextExchange_txbuf (s : State) : (s.nextExchange).txbuf = s.txbuf := rfl
@[simp] theorem State.nextExchange_rxbuf (s : State) : (s.nextExchange).rxbuf = s.rxbuf := rfl
@[simp] theorem State.nextExchange_acc (s : State) : (s.nextExchange).acc = s.acc := rfl
@[simp] theorem State.nextExchange_escp (s : State) : (s.nextExchange).escp = s.escp := rfl
@[simp] theorem State.nextExchange_start (s : State) : (s.nextExchange).start = s.start := rfl
@[simp] theorem State.nextExchange_stg (s : State) : (s.nextExchange).stg = s.stg := rfl
@[simp] theorem State.nextExchange_cfg (s : State) : (s.nextExchange).cfg = s.cfg := rfl
@[simp] theorem State.nextExchange_inputs (s : State) : (s.nextExchange).inputs = s.inputs := rfl
@[simp] theorem State.nextExchange_sendAns (s : State) : (s.nextExchange).sendAns = s.sendAns := rfl
@[simp] theorem State.nextExchange_recvAns (s : State) : (s.nextExchange).recvAns = s.recvAns := rfl
@[simp] theorem State.nextExchange_draws (s : State) : (s.nextExchange).draws = s.draws := rfl
@[simp] theorem State.nextExchange_outs (s : State) : (s.nextExchange).outs = s.outs := rfl
@[simp] theorem State.nextExchange_res (s : State) : (s.nextExchange).res = s.res := rfl

/-! ### `State.beginExchanges` -/

@[simp] theorem State.beginExchanges_op (s : State) : (s.beginExchanges).op = s.op := rfl
@[simp] theorem State.beginExchanges_name (s : State) : (s.beginExchanges).name = s.name := rfl
@[simp] theorem State.beginExchanges_devid (s : State) : (s.beginExchanges).devid = s.devid := rfl
@[simp] theorem State.beginExchanges_count (s : State) : (s.beginExchanges).count = s.count := rfl
@[simp] theorem State.beginExchanges_wv (s : State) : (s.beginExchanges).wv = s.wv := rfl
@[simp] theorem State.beginExchanges_rv (s : State) : (s.beginExchanges).rv = s.rv := rfl
@[simp] theorem State.beginExchanges_rcount (s : State) : (s.beginExchanges).rcount = s.rcount := rfl
@[simp] theorem State.beginExchanges_rvalid (s : State) : (s.beginExchanges).rvalid = s.rvalid := rfl
@[simp] theorem State.beginExchanges_busy (s : State) : (s.beginExchanges).busy = s.busy := rfl
@[simp] theorem State.beginExchanges_done (s : State) : (s.beginExchanges).done = s.done := rfl
@[simp] theorem State.beginExchanges_err (s : State) : (s.beginExchanges).err = s.err := rfl
@[simp] theorem State.beginExchanges_fault (s : State) : (s.beginExchanges).fault = s.fault := rfl
@[simp] theorem State.beginExchanges_finfo (s : State) : (s.beginExchanges).finfo = s.finfo := rfl
@[simp] theorem State.beginExchanges_seq (s : State) : (s.beginExchanges).seq = .build := rfl
@[simp] theorem State.beginExchanges_sb (s : State) : (s.beginExchanges).sb = 0 := rfl
@[simp] theorem State.beginExchanges_nsb (s : State) :
    (s.beginExchanges).nsb = exchangeCount s.cfg.variant s.count.toNat := rfl
@[simp] theorem State.beginExchanges_tries (s : State) : (s.beginExchanges).tries = s.tries := rfl
@[simp] theorem State.beginExchanges_addr (s : State) : (s.beginExchanges).addr = s.addr := rfl
@[simp] theorem State.beginExchanges_cls (s : State) : (s.beginExchanges).cls = s.cls := rfl
@[simp] theorem State.beginExchanges_txbuf (s : State) : (s.beginExchanges).txbuf = s.txbuf := rfl
@[simp] theorem State.beginExchanges_rxbuf (s : State) : (s.beginExchanges).rxbuf = s.rxbuf := rfl
@[simp] theorem State.beginExchanges_acc (s : State) : (s.beginExchanges).acc = s.acc := rfl
@[simp] theorem State.beginExchanges_escp (s : State) : (s.beginExchanges).escp = s.escp := rfl
@[simp] theorem State.beginExchanges_start (s : State) : (s.beginExchanges).start = s.start := rfl
@[simp] theorem State.beginExchanges_stg (s : State) : (s.beginExchanges).stg = s.stg := rfl
@[simp] theorem State.beginExchanges_cfg (s : State) : (s.beginExchanges).cfg = s.cfg := rfl
@[simp] theorem State.beginExchanges_inputs (s : State) : (s.beginExchanges).inputs = s.inputs := rfl
@[simp] theorem State.beginExchanges_sendAns (s : State) : (s.beginExchanges).sendAns = s.sendAns := rfl
@[simp] theorem State.beginExchanges_recvAns (s : State) : (s.beginExchanges).recvAns = s.recvAns := rfl
@[simp] theorem State.beginExchanges_draws (s : State) : (s.beginExchanges).draws = s.draws := rfl
@[simp] theorem State.beginExchanges_outs (s : State) : (s.beginExchanges).outs = s.outs := rfl
@[simp] theorem State.beginExchanges_res (s : State) : (s.beginExchanges).res = s.res := rfl

/-! ### `State.commit` -/

@[simp] theorem State.commit_op (s : State) : (s.commit).op = s.op := rfl
@[simp] theorem State.commit_name (s : State) : (s.commit).name = s.name := rfl
@[simp] theorem State.commit_devid (s : State) : (s.commit).devid = s.devid := rfl
@[simp] theorem State.commit_count (s : State) : (s.commit).count = s.count := rfl
@[simp] theorem State.commit_wv (s : State) : (s.commit).wv = s.wv := rfl
@[simp] theorem State.commit_rv (s : State) : (s.commit).rv = sanitizeRv s.cls s.count.toNat s.stg s.rv := rfl
@[simp] theorem State.commit_rcount (s : State) : (s.commit).rcount = BitVec.ofNat 3 s.count.toNat := rfl
@[simp] theorem State.commit_rvalid (s : State) : (s.commit).rvalid = true := rfl
@[simp] theorem State.commit_busy (s : State) : (s.commit).busy = s.busy := rfl
@[simp] theorem State.commit_done (s : State) : (s.commit).done = s.done := rfl
@[simp] theorem State.commit_err (s : State) : (s.commit).err = s.err := rfl
@[simp] theorem State.commit_fault (s : State) : (s.commit).fault = s.fault := rfl
@[simp] theorem State.commit_finfo (s : State) : (s.commit).finfo = s.finfo := rfl
@[simp] theorem State.commit_seq (s : State) : (s.commit).seq = s.seq := rfl
@[simp] theorem State.commit_sb (s : State) : (s.commit).sb = s.sb := rfl
@[simp] theorem State.commit_nsb (s : State) : (s.commit).nsb = s.nsb := rfl
@[simp] theorem State.commit_tries (s : State) : (s.commit).tries = s.tries := rfl
@[simp] theorem State.commit_addr (s : State) : (s.commit).addr = s.addr := rfl
@[simp] theorem State.commit_cls (s : State) : (s.commit).cls = s.cls := rfl
@[simp] theorem State.commit_txbuf (s : State) : (s.commit).txbuf = s.txbuf := rfl
@[simp] theorem State.commit_rxbuf (s : State) : (s.commit).rxbuf = s.rxbuf := rfl
@[simp] theorem State.commit_acc (s : State) : (s.commit).acc = s.acc := rfl
@[simp] theorem State.commit_escp (s : State) : (s.commit).escp = s.escp := rfl
@[simp] theorem State.commit_start (s : State) : (s.commit).start = s.start := rfl
@[simp] theorem State.commit_stg (s : State) : (s.commit).stg = s.stg := rfl
@[simp] theorem State.commit_cfg (s : State) : (s.commit).cfg = s.cfg := rfl
@[simp] theorem State.commit_inputs (s : State) : (s.commit).inputs = s.inputs := rfl
@[simp] theorem State.commit_sendAns (s : State) : (s.commit).sendAns = s.sendAns := rfl
@[simp] theorem State.commit_recvAns (s : State) : (s.commit).recvAns = s.recvAns := rfl
@[simp] theorem State.commit_draws (s : State) : (s.commit).draws = s.draws := rfl
@[simp] theorem State.commit_outs (s : State) : (s.commit).outs = s.outs := rfl
@[simp] theorem State.commit_res (s : State) : (s.commit).res = s.res := rfl

/-! ### `State.resetRegisters` -/

@[simp] theorem State.resetRegisters_op (s : State) : (s.resetRegisters).op = 0 := rfl
@[simp] theorem State.resetRegisters_name (s : State) : (s.resetRegisters).name = s.cfg.firstName := rfl
@[simp] theorem State.resetRegisters_devid (s : State) : (s.resetRegisters).devid = 0 := rfl
@[simp] theorem State.resetRegisters_count (s : State) : (s.resetRegisters).count = 0 := rfl
@[simp] theorem State.resetRegisters_wv (s : State) : (s.resetRegisters).wv = Six.all 0 := rfl
@[simp] theorem State.resetRegisters_rv (s : State) : (s.resetRegisters).rv = Config.freeRv s.draws := rfl
@[simp] theorem State.resetRegisters_rcount (s : State) : (s.resetRegisters).rcount = 0 := rfl
@[simp] theorem State.resetRegisters_rvalid (s : State) : (s.resetRegisters).rvalid = false := rfl
@[simp] theorem State.resetRegisters_busy (s : State) : (s.resetRegisters).busy = false := rfl
@[simp] theorem State.resetRegisters_done (s : State) : (s.resetRegisters).done = false := rfl
@[simp] theorem State.resetRegisters_err (s : State) : (s.resetRegisters).err = false := rfl
@[simp] theorem State.resetRegisters_fault (s : State) : (s.resetRegisters).fault = 0 := rfl
@[simp] theorem State.resetRegisters_finfo (s : State) : (s.resetRegisters).finfo = 0 := rfl
@[simp] theorem State.resetRegisters_seq (s : State) : (s.resetRegisters).seq = .idle := rfl
@[simp] theorem State.resetRegisters_sb (s : State) : (s.resetRegisters).sb = 0 := rfl
@[simp] theorem State.resetRegisters_nsb (s : State) : (s.resetRegisters).nsb = 1 := rfl
@[simp] theorem State.resetRegisters_tries (s : State) : (s.resetRegisters).tries = 0 := rfl
@[simp] theorem State.resetRegisters_addr (s : State) : (s.resetRegisters).addr = 0 := rfl
@[simp] theorem State.resetRegisters_cls (s : State) : (s.resetRegisters).cls = .magnitude := rfl
@[simp] theorem State.resetRegisters_txbuf (s : State) : (s.resetRegisters).txbuf = [] := rfl
@[simp] theorem State.resetRegisters_rxbuf (s : State) : (s.resetRegisters).rxbuf = [] := rfl
@[simp] theorem State.resetRegisters_acc (s : State) : (s.resetRegisters).acc = 0 := rfl
@[simp] theorem State.resetRegisters_escp (s : State) : (s.resetRegisters).escp = false := rfl
@[simp] theorem State.resetRegisters_start (s : State) : (s.resetRegisters).start = 0 := rfl
@[simp] theorem State.resetRegisters_stg (s : State) : (s.resetRegisters).stg = Six.all 0 := rfl
@[simp] theorem State.resetRegisters_cfg (s : State) : (s.resetRegisters).cfg = s.cfg := rfl
@[simp] theorem State.resetRegisters_inputs (s : State) : (s.resetRegisters).inputs = s.inputs := rfl
@[simp] theorem State.resetRegisters_sendAns (s : State) : (s.resetRegisters).sendAns = s.sendAns := rfl
@[simp] theorem State.resetRegisters_recvAns (s : State) : (s.resetRegisters).recvAns = s.recvAns := rfl
@[simp] theorem State.resetRegisters_draws (s : State) : (s.resetRegisters).draws = s.draws + 1 := rfl
@[simp] theorem State.resetRegisters_outs (s : State) : (s.resetRegisters).outs = s.outs := rfl
@[simp] theorem State.resetRegisters_res (s : State) : (s.resetRegisters).res = .none := rfl

/-! ### `State.unstuff` -/

@[simp] theorem State.unstuff_op (s : State) (b : List Byte) : (s.unstuff b).op = s.op := rfl
@[simp] theorem State.unstuff_name (s : State) (b : List Byte) : (s.unstuff b).name = s.name := rfl
@[simp] theorem State.unstuff_devid (s : State) (b : List Byte) : (s.unstuff b).devid = s.devid := rfl
@[simp] theorem State.unstuff_count (s : State) (b : List Byte) : (s.unstuff b).count = s.count := rfl
@[simp] theorem State.unstuff_wv (s : State) (b : List Byte) : (s.unstuff b).wv = s.wv := rfl
@[simp] theorem State.unstuff_rv (s : State) (b : List Byte) : (s.unstuff b).rv = s.rv := rfl
@[simp] theorem State.unstuff_rcount (s : State) (b : List Byte) : (s.unstuff b).rcount = s.rcount := rfl
@[simp] theorem State.unstuff_rvalid (s : State) (b : List Byte) : (s.unstuff b).rvalid = s.rvalid := rfl
@[simp] theorem State.unstuff_busy (s : State) (b : List Byte) : (s.unstuff b).busy = s.busy := rfl
@[simp] theorem State.unstuff_done (s : State) (b : List Byte) : (s.unstuff b).done = s.done := rfl
@[simp] theorem State.unstuff_err (s : State) (b : List Byte) : (s.unstuff b).err = s.err := rfl
@[simp] theorem State.unstuff_fault (s : State) (b : List Byte) : (s.unstuff b).fault = s.fault := rfl
@[simp] theorem State.unstuff_finfo (s : State) (b : List Byte) : (s.unstuff b).finfo = s.finfo := rfl
@[simp] theorem State.unstuff_seq (s : State) (b : List Byte) : (s.unstuff b).seq = s.seq := rfl
@[simp] theorem State.unstuff_sb (s : State) (b : List Byte) : (s.unstuff b).sb = s.sb := rfl
@[simp] theorem State.unstuff_nsb (s : State) (b : List Byte) : (s.unstuff b).nsb = s.nsb := rfl
@[simp] theorem State.unstuff_tries (s : State) (b : List Byte) : (s.unstuff b).tries = s.tries := rfl
@[simp] theorem State.unstuff_addr (s : State) (b : List Byte) : (s.unstuff b).addr = s.addr := rfl
@[simp] theorem State.unstuff_cls (s : State) (b : List Byte) : (s.unstuff b).cls = s.cls := rfl
@[simp] theorem State.unstuff_txbuf (s : State) (b : List Byte) : (s.unstuff b).txbuf = s.txbuf := rfl
@[simp] theorem State.unstuff_rxbuf (s : State) (b : List Byte) : (s.unstuff b).rxbuf = s.rxbuf := rfl
@[simp] theorem State.unstuff_acc (s : State) (b : List Byte) : (s.unstuff b).acc = s.acc := rfl
@[simp] theorem State.unstuff_escp (s : State) (b : List Byte) : (s.unstuff b).escp = (unstuffSerial false b).2 := rfl
@[simp] theorem State.unstuff_start (s : State) (b : List Byte) : (s.unstuff b).start = s.start := rfl
@[simp] theorem State.unstuff_stg (s : State) (b : List Byte) : (s.unstuff b).stg = s.stg := rfl
@[simp] theorem State.unstuff_cfg (s : State) (b : List Byte) : (s.unstuff b).cfg = s.cfg := rfl
@[simp] theorem State.unstuff_inputs (s : State) (b : List Byte) : (s.unstuff b).inputs = s.inputs := rfl
@[simp] theorem State.unstuff_sendAns (s : State) (b : List Byte) : (s.unstuff b).sendAns = s.sendAns := rfl
@[simp] theorem State.unstuff_recvAns (s : State) (b : List Byte) : (s.unstuff b).recvAns = s.recvAns := rfl
@[simp] theorem State.unstuff_draws (s : State) (b : List Byte) : (s.unstuff b).draws = s.draws := rfl
@[simp] theorem State.unstuff_outs (s : State) (b : List Byte) : (s.unstuff b).outs = s.outs := rfl
@[simp] theorem State.unstuff_res (s : State) (b : List Byte) : (s.unstuff b).res = s.res := rfl

/-! ### `State.afterSendAnswer` -/

@[simp] theorem State.afterSendAnswer_op (s : State) : s.afterSendAnswer.op = s.op := by
  unfold State.afterSendAnswer; split <;> rfl
@[simp] theorem State.afterSendAnswer_name (s : State) : s.afterSendAnswer.name = s.name := by
  unfold State.afterSendAnswer; split <;> rfl
@[simp] theorem State.afterSendAnswer_devid (s : State) : s.afterSendAnswer.devid = s.devid := by
  unfold State.afterSendAnswer; split <;> rfl
@[simp] theorem State.afterSendAnswer_count (s : State) : s.afterSendAnswer.count = s.count := by
  unfold State.afterSendAnswer; split <;> rfl
@[simp] theorem State.afterSendAnswer_wv (s : State) : s.afterSendAnswer.wv = s.wv := by
  unfold State.afterSendAnswer; split <;> rfl
@[simp] theorem State.afterSendAnswer_rv (s : State) : s.afterSendAnswer.rv = s.rv := by
  unfold State.afterSendAnswer; split <;> rfl
@[simp] theorem State.afterSendAnswer_rcount (s : State) : s.afterSendAnswer.rcount = s.rcount := by
  unfold State.afterSendAnswer; split <;> rfl
@[simp] theorem State.afterSendAnswer_rvalid (s : State) : s.afterSendAnswer.rvalid = s.rvalid := by
  unfold State.afterSendAnswer; split <;> rfl
@[simp] theorem State.afterSendAnswer_busy (s : State) : s.afterSendAnswer.busy = s.busy := by
  unfold State.afterSendAnswer; split <;> rfl
@[simp] theorem State.afterSendAnswer_done (s : State) : s.afterSendAnswer.done = s.done := by
  unfold State.afterSendAnswer; split <;> rfl
@[simp] theorem State.afterSendAnswer_err (s : State) : s.afterSendAnswer.err = s.err := by
  unfold State.afterSendAnswer; split <;> rfl
@[simp] theorem State.afterSendAnswer_fault (s : State) : s.afterSendAnswer.fault = s.fault := by
  unfold State.afterSendAnswer; split <;> rfl
@[simp] theorem State.afterSendAnswer_finfo (s : State) : s.afterSendAnswer.finfo = s.finfo := by
  unfold State.afterSendAnswer; split <;> rfl
@[simp] theorem State.afterSendAnswer_seq (s : State) : s.afterSendAnswer.seq = s.seq := by
  unfold State.afterSendAnswer; split <;> rfl
@[simp] theorem State.afterSendAnswer_sb (s : State) : s.afterSendAnswer.sb = s.sb := by
  unfold State.afterSendAnswer; split <;> rfl
@[simp] theorem State.afterSendAnswer_nsb (s : State) : s.afterSendAnswer.nsb = s.nsb := by
  unfold State.afterSendAnswer; split <;> rfl
@[simp] theorem State.afterSendAnswer_tries (s : State) : s.afterSendAnswer.tries = s.tries := by
  unfold State.afterSendAnswer; split <;> rfl
@[simp] theorem State.afterSendAnswer_addr (s : State) : s.afterSendAnswer.addr = s.addr := by
  unfold State.afterSendAnswer; split <;> rfl
@[simp] theorem State.afterSendAnswer_cls (s : State) : s.afterSendAnswer.cls = s.cls := by
  unfold State.afterSendAnswer; split <;> rfl
@[simp] theorem State.afterSendAnswer_txbuf (s : State) : s.afterSendAnswer.txbuf = s.txbuf := by
  unfold State.afterSendAnswer; split <;> rfl
@[simp] theorem State.afterSendAnswer_rxbuf (s : State) : s.afterSendAnswer.rxbuf = s.rxbuf := by
  unfold State.afterSendAnswer; split <;> rfl
@[simp] theorem State.afterSendAnswer_acc (s : State) : s.afterSendAnswer.acc = s.acc := by
  unfold State.afterSendAnswer; split <;> rfl
@[simp] theorem State.afterSendAnswer_escp (s : State) : s.afterSendAnswer.escp = s.escp := by
  unfold State.afterSendAnswer; split <;> rfl
@[simp] theorem State.afterSendAnswer_start (s : State) : s.afterSendAnswer.start = s.start := by
  unfold State.afterSendAnswer; split <;> rfl
@[simp] theorem State.afterSendAnswer_stg (s : State) : s.afterSendAnswer.stg = s.stg := by
  unfold State.afterSendAnswer; split <;> rfl
@[simp] theorem State.afterSendAnswer_cfg (s : State) : s.afterSendAnswer.cfg = s.cfg := by
  unfold State.afterSendAnswer; split <;> rfl
@[simp] theorem State.afterSendAnswer_inputs (s : State) : s.afterSendAnswer.inputs = s.inputs := by
  unfold State.afterSendAnswer; split <;> rfl
@[simp] theorem State.afterSendAnswer_sendAns (s : State) : s.afterSendAnswer.sendAns = s.sendAns.tail := by
  unfold State.afterSendAnswer; split <;> simp_all
@[simp] theorem State.afterSendAnswer_recvAns (s : State) : s.afterSendAnswer.recvAns = s.recvAns := by
  unfold State.afterSendAnswer; split <;> rfl
@[simp] theorem State.afterSendAnswer_draws (s : State) :
    s.afterSendAnswer.draws = if s.sendAns = [] then s.draws + 1 else s.draws := by
  unfold State.afterSendAnswer; split <;> simp_all
@[simp] theorem State.afterSendAnswer_outs (s : State) : s.afterSendAnswer.outs = s.outs := by
  unfold State.afterSendAnswer; split <;> rfl
@[simp] theorem State.afterSendAnswer_res (s : State) : s.afterSendAnswer.res = s.res := by
  unfold State.afterSendAnswer; split <;> rfl

/-! ### `State.afterRecvAnswer` -/

@[simp] theorem State.afterRecvAnswer_op (s : State) : s.afterRecvAnswer.op = s.op := by
  unfold State.afterRecvAnswer; split <;> rfl
@[simp] theorem State.afterRecvAnswer_name (s : State) : s.afterRecvAnswer.name = s.name := by
  unfold State.afterRecvAnswer; split <;> rfl
@[simp] theorem State.afterRecvAnswer_devid (s : State) : s.afterRecvAnswer.devid = s.devid := by
  unfold State.afterRecvAnswer; split <;> rfl
@[simp] theorem State.afterRecvAnswer_count (s : State) : s.afterRecvAnswer.count = s.count := by
  unfold State.afterRecvAnswer; split <;> rfl
@[simp] theorem State.afterRecvAnswer_wv (s : State) : s.afterRecvAnswer.wv = s.wv := by
  unfold State.afterRecvAnswer; split <;> rfl
@[simp] theorem State.afterRecvAnswer_rv (s : State) : s.afterRecvAnswer.rv = s.rv := by
  unfold State.afterRecvAnswer; split <;> rfl
@[simp] theorem State.afterRecvAnswer_rcount (s : State) : s.afterRecvAnswer.rcount = s.rcount := by
  unfold State.afterRecvAnswer; split <;> rfl
@[simp] theorem State.afterRecvAnswer_rvalid (s : State) : s.afterRecvAnswer.rvalid = s.rvalid := by
  unfold State.afterRecvAnswer; split <;> rfl
@[simp] theorem State.afterRecvAnswer_busy (s : State) : s.afterRecvAnswer.busy = s.busy := by
  unfold State.afterRecvAnswer; split <;> rfl
@[simp] theorem State.afterRecvAnswer_done (s : State) : s.afterRecvAnswer.done = s.done := by
  unfold State.afterRecvAnswer; split <;> rfl
@[simp] theorem State.afterRecvAnswer_err (s : State) : s.afterRecvAnswer.err = s.err := by
  unfold State.afterRecvAnswer; split <;> rfl
@[simp] theorem State.afterRecvAnswer_fault (s : State) : s.afterRecvAnswer.fault = s.fault := by
  unfold State.afterRecvAnswer; split <;> rfl
@[simp] theorem State.afterRecvAnswer_finfo (s : State) : s.afterRecvAnswer.finfo = s.finfo := by
  unfold State.afterRecvAnswer; split <;> rfl
@[simp] theorem State.afterRecvAnswer_seq (s : State) : s.afterRecvAnswer.seq = s.seq := by
  unfold State.afterRecvAnswer; split <;> rfl
@[simp] theorem State.afterRecvAnswer_sb (s : State) : s.afterRecvAnswer.sb = s.sb := by
  unfold State.afterRecvAnswer; split <;> rfl
@[simp] theorem State.afterRecvAnswer_nsb (s : State) : s.afterRecvAnswer.nsb = s.nsb := by
  unfold State.afterRecvAnswer; split <;> rfl
@[simp] theorem State.afterRecvAnswer_tries (s : State) : s.afterRecvAnswer.tries = s.tries := by
  unfold State.afterRecvAnswer; split <;> rfl
@[simp] theorem State.afterRecvAnswer_addr (s : State) : s.afterRecvAnswer.addr = s.addr := by
  unfold State.afterRecvAnswer; split <;> rfl
@[simp] theorem State.afterRecvAnswer_cls (s : State) : s.afterRecvAnswer.cls = s.cls := by
  unfold State.afterRecvAnswer; split <;> rfl
@[simp] theorem State.afterRecvAnswer_txbuf (s : State) : s.afterRecvAnswer.txbuf = s.txbuf := by
  unfold State.afterRecvAnswer; split <;> rfl
@[simp] theorem State.afterRecvAnswer_rxbuf (s : State) : s.afterRecvAnswer.rxbuf = s.rxbuf := by
  unfold State.afterRecvAnswer; split <;> rfl
@[simp] theorem State.afterRecvAnswer_acc (s : State) : s.afterRecvAnswer.acc = s.acc := by
  unfold State.afterRecvAnswer; split <;> rfl
@[simp] theorem State.afterRecvAnswer_escp (s : State) : s.afterRecvAnswer.escp = s.escp := by
  unfold State.afterRecvAnswer; split <;> rfl
@[simp] theorem State.afterRecvAnswer_start (s : State) : s.afterRecvAnswer.start = s.start := by
  unfold State.afterRecvAnswer; split <;> rfl
@[simp] theorem State.afterRecvAnswer_stg (s : State) : s.afterRecvAnswer.stg = s.stg := by
  unfold State.afterRecvAnswer; split <;> rfl
@[simp] theorem State.afterRecvAnswer_cfg (s : State) : s.afterRecvAnswer.cfg = s.cfg := by
  unfold State.afterRecvAnswer; split <;> rfl
@[simp] theorem State.afterRecvAnswer_inputs (s : State) : s.afterRecvAnswer.inputs = s.inputs := by
  unfold State.afterRecvAnswer; split <;> rfl
@[simp] theorem State.afterRecvAnswer_sendAns (s : State) : s.afterRecvAnswer.sendAns = s.sendAns := by
  unfold State.afterRecvAnswer; split <;> rfl
@[simp] theorem State.afterRecvAnswer_recvAns (s : State) : s.afterRecvAnswer.recvAns = s.recvAns.tail := by
  unfold State.afterRecvAnswer; split <;> simp_all
@[simp] theorem State.afterRecvAnswer_draws (s : State) :
    s.afterRecvAnswer.draws = if s.recvAns = [] then s.draws + 1 else s.draws := by
  unfold State.afterRecvAnswer; split <;> simp_all
@[simp] theorem State.afterRecvAnswer_outs (s : State) : s.afterRecvAnswer.outs = s.outs := by
  unfold State.afterRecvAnswer; split <;> rfl
@[simp] theorem State.afterRecvAnswer_res (s : State) : s.afterRecvAnswer.res = s.res := by
  unfold State.afterRecvAnswer; split <;> rfl

/-! ### `State.afterReceive` -/

@[simp] theorem State.afterReceive_op (s : State) (max : Nat) :
    (s.afterReceive max).op = s.op := by simp [State.afterReceive]
@[simp] theorem State.afterReceive_name (s : State) (max : Nat) :
    (s.afterReceive max).name = s.name := by simp [State.afterReceive]
@[simp] theorem State.afterReceive_devid (s : State) (max : Nat) :
    (s.afterReceive max).devid = s.devid := by simp [State.afterReceive]
@[simp] theorem State.afterReceive_count (s : State) (max : Nat) :
    (s.afterReceive max).count = s.count := by simp [State.afterReceive]
@[simp] theorem State.afterReceive_wv (s : State) (max : Nat) :
    (s.afterReceive max).wv = s.wv := by simp [State.afterReceive]
@[simp] theorem State.afterReceive_rv (s : State) (max : Nat) :
    (s.afterReceive max).rv = s.rv := by simp [State.afterReceive]
@[simp] theorem State.afterReceive_rcount (s : State) (max : Nat) :
    (s.afterReceive max).rcount = s.rcount := by simp [State.afterReceive]
@[simp] theorem State.afterReceive_rvalid (s : State) (max : Nat) :
    (s.afterReceive max).rvalid = s.rvalid := by simp [State.afterReceive]
@[simp] theorem State.afterReceive_busy (s : State) (max : Nat) :
    (s.afterReceive max).busy = s.busy := by simp [State.afterReceive]
@[simp] theorem State.afterReceive_done (s : State) (max : Nat) :
    (s.afterReceive max).done = s.done := by simp [State.afterReceive]
@[simp] theorem State.afterReceive_err (s : State) (max : Nat) :
    (s.afterReceive max).err = s.err := by simp [State.afterReceive]
@[simp] theorem State.afterReceive_fault (s : State) (max : Nat) :
    (s.afterReceive max).fault = s.fault := by simp [State.afterReceive]
@[simp] theorem State.afterReceive_finfo (s : State) (max : Nat) :
    (s.afterReceive max).finfo = s.finfo := by simp [State.afterReceive]
@[simp] theorem State.afterReceive_seq (s : State) (max : Nat) :
    (s.afterReceive max).seq = s.seq := by simp [State.afterReceive]
@[simp] theorem State.afterReceive_sb (s : State) (max : Nat) :
    (s.afterReceive max).sb = s.sb := by simp [State.afterReceive]
@[simp] theorem State.afterReceive_nsb (s : State) (max : Nat) :
    (s.afterReceive max).nsb = s.nsb := by simp [State.afterReceive]
@[simp] theorem State.afterReceive_tries (s : State) (max : Nat) :
    (s.afterReceive max).tries = s.tries := by simp [State.afterReceive]
@[simp] theorem State.afterReceive_addr (s : State) (max : Nat) :
    (s.afterReceive max).addr = s.addr := by simp [State.afterReceive]
@[simp] theorem State.afterReceive_cls (s : State) (max : Nat) :
    (s.afterReceive max).cls = s.cls := by simp [State.afterReceive]
@[simp] theorem State.afterReceive_txbuf (s : State) (max : Nat) :
    (s.afterReceive max).txbuf = s.txbuf := by simp [State.afterReceive]
@[simp] theorem State.afterReceive_rxbuf (s : State) (max : Nat) :
    (s.afterReceive max).rxbuf = answerBytes (s.recvAnswer max) := by simp [State.afterReceive]
@[simp] theorem State.afterReceive_acc (s : State) (max : Nat) :
    (s.afterReceive max).acc = s.acc := by simp [State.afterReceive]
@[simp] theorem State.afterReceive_escp (s : State) (max : Nat) :
    (s.afterReceive max).escp = s.escp := by simp [State.afterReceive]
@[simp] theorem State.afterReceive_start (s : State) (max : Nat) :
    (s.afterReceive max).start = s.start := by simp [State.afterReceive]
@[simp] theorem State.afterReceive_stg (s : State) (max : Nat) :
    (s.afterReceive max).stg = s.stg := by simp [State.afterReceive]
@[simp] theorem State.afterReceive_cfg (s : State) (max : Nat) :
    (s.afterReceive max).cfg = s.cfg := by simp [State.afterReceive]
@[simp] theorem State.afterReceive_inputs (s : State) (max : Nat) :
    (s.afterReceive max).inputs = s.inputs := by simp [State.afterReceive]
@[simp] theorem State.afterReceive_sendAns (s : State) (max : Nat) :
    (s.afterReceive max).sendAns = s.sendAns := by simp [State.afterReceive]
@[simp] theorem State.afterReceive_recvAns (s : State) (max : Nat) :
    (s.afterReceive max).recvAns = s.recvAns.tail := by simp [State.afterReceive]
@[simp] theorem State.afterReceive_draws (s : State) (max : Nat) :
    (s.afterReceive max).draws = if s.recvAns = [] then s.draws + 1 else s.draws := by simp [State.afterReceive]
@[simp] theorem State.afterReceive_outs (s : State) (max : Nat) :
    (s.afterReceive max).outs = s.outs ++ [.received (s.recvAnswer max)] := by simp [State.afterReceive]
@[simp] theorem State.afterReceive_res (s : State) (max : Nat) :
    (s.afterReceive max).res = s.res := by simp [State.afterReceive]

end Sys2Proof.Machine
end

