-- ==== Sys2Proof/Laws/Ops.lean ====
section
/-! SUPPORT. For each shared operation one lemma that says once what it can do; the proofs cite these and do not unfold the
operations. -/

namespace Sys2Proof.Machine

/-! ### Fault entry, acceptance, completion -/

theorem State.raise_eq (s : State) (c : Cause) : s.raise c = faulted c.code s.finfoNow s := rfl

theorem State.accept_eq (s : State) (c : Command) : s.accept c = accepted c s := rfl

theorem State.complete_eq (s : State) : s.complete = completed s := rfl

@[simp] theorem Ran.settle_done {α : Type} (r : α → OpResult) (v : α) (s : State) :
    (Ran.done v s).settle r = { s with res := r v } := rfl

@[simp] theorem Ran.settle_raised {α : Type} (r : α → OpResult) (c : Cause) (s : State) :
    (Ran.raised c s).settle r = s.raise c := rfl

/-! ### Checksum and frame building -/

theorem State.cksumAddAll_eq (b : List Byte) (s : State) :
    s.cksumAddAll b = { s with acc := BitVec.ofNat 8 ((s.acc.toNat + byteSum b) % 256) } := by
  induction b generalizing s with
  | nil =>
    have h : BitVec.ofNat 8 (s.acc.toNat % 256) = s.acc := by
      apply BitVec.eq_of_toNat_eq; have := s.acc.isLt; simp; omega
    simp only [State.cksumAddAll, byteSum, Nat.add_zero, h]
  | cons x b ih =>
    rw [State.cksumAddAll, ih]
    simp only [State.cksumAdd, byteSum]
    congr 2
    simp only [BitVec.toNat_ofNat]
    omega

/-- The serial accumulator ends at the sum of the range and touches nothing else (40_checksum.md R131). -/
theorem State.cksumRun_eq (b : List Byte) (s : State) : s.cksumRun b = { s with acc := sum8 b } := by
  rw [State.cksumRun, State.cksumAddAll_eq]
  simp [State.cksumClear, sum8]

/-- Building a frame writes ACC and TXBUF. -/
theorem State.build_eq (range frame : List Byte) (s : State) :
    s.build range frame = { s with acc := sum8 range, txbuf := frame } := by
  rw [State.build, State.cksumRun_eq]; rfl

/-- ENC.A.WR: a frame in TXBUF for up to six values, BadCount for more. -/
theorem State.encAWr_eq (dev : Byte) (addr : Half) (vals : List Half) (s : State) :
    s.encAWr dev addr vals =
      if 6 < vals.length then .raised .badCount s
      else .done (frameA (bodyAWr dev addr vals))
        { s with acc := sum8 (bodyAWr dev addr vals), txbuf := frameA (bodyAWr dev addr vals) } := by
  rw [State.encAWr, State.build_eq]

/-- ENC.A.RD: a frame in TXBUF. -/
theorem State.encARd_eq (dev : Byte) (addr : Half) (s : State) :
    s.encARd dev addr = .done (frameA (bodyARd s.cfg dev addr))
      { s with acc := sum8 (bodyARd s.cfg dev addr), txbuf := frameA (bodyARd s.cfg dev addr) } := by
  rw [State.encARd, State.build_eq]

/-- The first window byte of a read in the CountByte form: twice the count, a free value where that is no byte. -/
theorem countByteOf_eq (c : Byte) :
    countByteOf c = if c.toNat < 128 then 2 * c else Config.freeCountByte c := by
  unfold countByteOf
  split
  · apply BitVec.eq_of_toNat_eq; simp
  · rfl

/-- The payload window of a request has eight bytes. -/
@[simp] theorem readWindow_length (f : BReadForm) (c : Byte) : (readWindow f c).length = 8 := by
  cases f <;> simp [readWindow]

/-- B_BUILD: a stuffed frame in TXBUF. -/
theorem State.buildB_eq (w : Bool) (addr : Half) (window : List Byte) (d : Byte) (s : State) :
    s.buildB w addr window d = .done (wireB (unstuffedB (coreB w addr window d)))
      { s with
        acc := sum8 (coreB w addr window d)
        txbuf := wireB (unstuffedB (coreB w addr window d)) } := by
  rw [State.buildB, State.build_eq]

/-! ### The register-name table -/

/-- LOOKUP: the entry's address and class, or UnknownRegister with nothing written. -/
theorem State.lookup_cases (name : Byte) (s : State) :
    (∃ e, findEntry name s.cfg.regmap = some e ∧ s.lookup name = .done e { s with addr := e.base, cls := e.cls }) ∨
    (findEntry name s.cfg.regmap = none ∧ s.lookup name = .raised .unknownRegister s) := by
  unfold State.lookup
  cases h : findEntry name s.cfg.regmap with
  | none => exact .inr ⟨rfl, rfl⟩
  | some e => exact .inl ⟨e, rfl, rfl⟩

theorem findEntry_eq_find (name : Byte) (m : List RegEntry) :
    findEntry name m = m.find? (fun e => e.name == name) := by
  induction m with
  | nil => rfl
  | cons e m ih =>
    by_cases h : e.name = name
    · simp [findEntry, h]
    · rw [findEntry, if_neg h, ih, List.find?_cons_of_neg (by simpa using h)]

/-! ### The transport -/

/-- SEND: the frame and its answer go on the trace; a failure is raised. -/
theorem State.sendFrame_cases (b : List Byte) (s : State) :
    (s.sendAnswer = .ok ∧ s.sendFrame b = .done () (s.afterSendAnswer.emit (.sent b .ok))) ∨
    (s.sendAnswer = .failure ∧
      s.sendFrame b = .raised .transportError (s.afterSendAnswer.emit (.sent b .failure))) := by
  unfold State.sendFrame
  cases h : s.sendAnswer with
  | ok => exact .inl ⟨rfl, rfl⟩
  | failure => exact .inr ⟨rfl, rfl⟩

/-- What a receive attempt brings fits the capacity of RXBUF. -/
theorem State.recvAnswer_fits (max : Nat) (s : State) :
    (answerBytes (s.recvAnswer max)).length ≤ s.cfg.rxCap := by
  have h : ∀ a, (answerBytes (capAnswer (s.recvLimit max) a)).length ≤ s.cfg.rxCap := by
    intro a
    cases a with
    | bytes b =>
      simp only [capAnswer, answerBytes, List.length_take, State.recvLimit]
      have := Nat.min_le_right max s.cfg.rxCap
      exact Nat.le_trans (Nat.min_le_left _ _) this
    | timeout => simp [capAnswer, answerBytes]
    | failure => simp [capAnswer, answerBytes]
  unfold State.recvAnswer
  split <;> exact h _

/-- An attempt without a response: TimeoutError, or another attempt is allowed in Poll mode. -/
theorem State.noResponse_cases (s : State) :
    (s.cfg.waitMode = .deadline ∧ s.noResponse = .raised .timeoutError s) ∨
    (s.cfg.waitMode = .poll ∧ limitReached s.cfg.retryLimit (s.tries + 1) = true ∧
      s.noResponse = .raised .timeoutError { s with tries := s.tries + 1 }) ∨
    (s.cfg.waitMode = .poll ∧ limitReached s.cfg.retryLimit (s.tries + 1) = false ∧
      s.noResponse = .again { s with tries := s.tries + 1 }) := by
  unfold State.noResponse
  cases hm : s.cfg.waitMode with
  | deadline => exact .inl ⟨rfl, rfl⟩
  | poll =>
    cases hl : limitReached s.cfg.retryLimit (s.tries + 1) with
    | true => exact .inr (.inl ⟨rfl, rfl, rfl⟩)
    | false => exact .inr (.inr ⟨rfl, rfl, rfl⟩)

/-- One attempt of a wait: a response, a failure, or nothing. -/
theorem State.attempt_cases (s : State) :
    (∃ x xs, s.recvAnswer s.cfg.rxCap = .bytes (x :: xs) ∧
      s.attempt = .response (s.afterReceive s.cfg.rxCap)) ∨
    (s.recvAnswer s.cfg.rxCap = .failure ∧
      s.attempt = .raised .transportError (s.afterReceive s.cfg.rxCap)) ∨
    ((s.recvAnswer s.cfg.rxCap = .timeout ∨ s.recvAnswer s.cfg.rxCap = .bytes []) ∧
      s.attempt = (s.afterReceive s.cfg.rxCap).noResponse) := by
  unfold State.attempt
  split
  · rename_i h; exact .inr (.inl ⟨h, rfl⟩)
  · rename_i h; exact .inr (.inr ⟨.inl h, rfl⟩)
  · rename_i h; exact .inr (.inr ⟨.inr h, rfl⟩)
  · rename_i x xs h; exact .inl ⟨x, xs, h, rfl⟩

/-! ### The decoders -/

/-- Verification writes ACC at most. -/
theorem State.verifyRun_eq (range : List Byte) (s : State) :
    s.verifyRun range = { s with acc := if s.cfg.rxVerify then sum8 range else s.acc } := by
  unfold State.verifyRun
  split
  · rw [State.cksumRun_eq]
  · rfl

/-- DEC.A: the six fields, or one of its two faults; ACC at most is written. -/
theorem State.decA_cases (raw : List Byte) (s : State) :
    (raw.length < needA s.cfg ∧ s.decA raw = .raised .malformedFrame s) ∨
    (¬raw.length < needA s.cfg ∧
      badSumA s.cfg raw = true ∧
      s.decA raw = .raised .checksumMismatch (s.verifyRun (slice raw 2 19))) ∨
    (¬raw.length < needA s.cfg ∧
      badSumA s.cfg raw = false ∧
      s.decA raw = .done (fieldsA raw) (s.verifyRun (slice raw 2 19))) := by
  unfold State.decA
  split
  · rename_i h; exact .inl ⟨h, rfl⟩
  · rename_i h
    split
    · rename_i h'; exact .inr (.inl ⟨h, h', rfl⟩)
    · rename_i h'; exact .inr (.inr ⟨h, Bool.eq_false_iff.mpr h', rfl⟩)

/-- DEC.B after the marker: the four fields, or one of its two faults; ACC at most is written. -/
theorem State.decBAt_cases (k : List Byte) (s : State) :
    (k.length < needB s.cfg ∧ s.decBAt k = .raised .malformedFrame s) ∨
    (¬k.length < needB s.cfg ∧
      badSumB s.cfg k = true ∧
      s.decBAt k = .raised .checksumMismatch (s.verifyRun (slice k 2 18))) ∨
    (¬k.length < needB s.cfg ∧
      badSumB s.cfg k = false ∧
      s.decBAt k = .done (fieldsB k) (s.verifyRun (slice k 2 18))) := by
  unfold State.decBAt
  split
  · rename_i h; exact .inl ⟨h, rfl⟩
  · rename_i h
    split
    · rename_i h'; exact .inr (.inl ⟨h, h', rfl⟩)
    · rename_i h'; exact .inr (.inr ⟨h, Bool.eq_false_iff.mpr h', rfl⟩)

/-- Finding the marker writes START and, with RX_UNSTUFF, ESCP. -/
theorem State.marked_eq (raw : List Byte) (i : Nat) (s : State) :
    s.marked raw i =
      { s with
        start := i
        escp := if s.cfg.rxUnstuff then (unstuffSerial false (raw.drop (i + 2))).2 else s.escp } := by
  unfold State.marked
  split <;> rfl

/-- DEC.B, done or raised: START, ESCP and ACC at most are written. -/
theorem State.decB_frame (raw : List Byte) (s : State) :
    ∃ st e a, (∃ f, s.decB raw = .done f { s with start := st, escp := e, acc := a }) ∨
      (∃ c, s.decB raw = .raised c { s with start := st, escp := e, acc := a }) := by
  unfold State.decB
  cases findStart raw with
  | none => exact ⟨s.start, s.escp, s.acc, .inr ⟨_, rfl⟩⟩
  | some i =>
    simp only [State.marked_eq]
    rcases State.decBAt_cases (responseB s.cfg raw i)
      { s with
        start := i
        escp := if s.cfg.rxUnstuff then (unstuffSerial false (raw.drop (i + 2))).2 else s.escp } with
      ⟨-, h⟩ | ⟨-, -, h⟩ | ⟨-, -, h⟩
    · exact ⟨_, _, _, .inr ⟨_, h⟩⟩
    · rw [State.verifyRun_eq] at h; exact ⟨_, _, _, .inr ⟨_, h⟩⟩
    · rw [State.verifyRun_eq] at h; exact ⟨_, _, _, .inl ⟨_, h⟩⟩

/-- DEC.A, done or raised: ACC at most is written. -/
theorem State.decA_frame (raw : List Byte) (s : State) :
    ∃ a, (∃ f, s.decA raw = .done f { s with acc := a }) ∨ (∃ c, s.decA raw = .raised c { s with acc := a }) := by
  rcases State.decA_cases raw s with ⟨-, h⟩ | ⟨-, -, h⟩ | ⟨-, -, h⟩
  · exact ⟨s.acc, .inr ⟨_, h⟩⟩
  · rw [State.verifyRun_eq] at h; exact ⟨_, .inr ⟨_, h⟩⟩
  · rw [State.verifyRun_eq] at h; exact ⟨_, .inl ⟨_, h⟩⟩

/-! ### Commands and the sequencer -/

/-- What the command port does with a WRREG or RDREG. -/
theorem State.registerCommand_cases (c : Command) (s : State) :
    (s.busy = true ∧ s.registerCommand c = s.refuseBusy) ∨
    (s.busy = false ∧ countOk c.count = false ∧ s.registerCommand c = (accepted c s).raise .badCount) ∨
    (s.busy = false ∧ countOk c.count = true ∧ findEntry c.name s.cfg.regmap = none ∧
      s.registerCommand c = (accepted c s).raise .unknownRegister) ∨
    (∃ e, s.busy = false ∧ countOk c.count = true ∧ findEntry c.name s.cfg.regmap = some e ∧
      s.registerCommand c =
        { accepted c s with
          addr := e.base
          cls := e.cls
          nsb := exchangeCount s.cfg.variant c.count.toNat
          seq := .build }) := by
  unfold State.registerCommand
  cases hb : s.busy with
  | true => exact .inl ⟨rfl, rfl⟩
  | false =>
    refine .inr ?_
    simp only [Bool.false_eq_true, if_false, State.accept_eq, State.startTransaction]
    cases hc : countOk c.count with
    | false => exact .inl ⟨trivial, rfl, by simp [accepted, hc]⟩
    | true =>
      refine .inr ?_
      rcases State.lookup_cases c.name (accepted c s) with ⟨e, he, h⟩ | ⟨he, h⟩
      · refine .inr ⟨e, trivial, rfl, he, ?_⟩
        have : (accepted c s).lookup (accepted c s).name = (accepted c s).lookup c.name := rfl
        simp only [this, h]
        have hco : countOk (accepted c s).count = true := hc
        rw [if_pos hco]
        rfl
      · refine .inl ⟨trivial, rfl, he, ?_⟩
        have : (accepted c s).lookup (accepted c s).name = (accepted c s).lookup c.name := rfl
        simp only [this, h]
        have hco : countOk (accepted c s).count = true := hc
        rw [if_pos hco]

/-- What the command port does with a command of an illegal code. -/
theorem State.illegalCommand_cases (c : Command) (s : State) :
    (s.busy = true ∧ s.illegalCommand c = s.refuseBusy) ∨
    (s.busy = false ∧ s.illegalCommand c = (accepted c s).raise .illegalCommand) := by
  unfold State.illegalCommand
  cases hb : s.busy with
  | true => exact .inl ⟨rfl, rfl⟩
  | false => exact .inr ⟨rfl, rfl⟩

/-- BUILD: a frame and its checksum are written and the phase is SEND, or BadCount is raised. -/
theorem State.stepBuild_cases (s : State) :
    (∃ f a, s.stepBuild = { s with acc := a, txbuf := f, seq := .send } ∧ f.length ≤ 38) ∨
    s.stepBuild = s.raise .badCount := by
  have hB : ∀ w addr p d, p.length = 8 → (wireB (unstuffedB (coreB w addr p d))).length ≤ 38 := by
    intro w addr p d hp
    have hl : (slice (unstuffedB (coreB w addr p d)) 2 19).length ≤ 17 := by
      simp only [slice, List.length_drop, List.length_take]; omega
    have := stuff_length_le (slice (unstuffedB (coreB w addr p d)) 2 19)
    simp only [wireB, List.length_append, List.length_cons, List.length_nil]
    omega
  have hA : ∀ vals : List Half, vals.length ≤ 6 → ∀ dev addr, (frameA (bodyAWr dev addr vals)).length ≤ 38 := by
    intro vals hv dev addr
    simp only [frameA, bodyAWr, List.length_append, List.length_cons, List.length_nil, le16s_length]
    omega
  unfold State.stepBuild State.encodeRequest
  by_cases ho : s.op = opRdreg
  · rw [if_pos ho]
    cases s.cfg.variant with
    | A =>
      simp only [State.encARd_eq]
      exact .inl ⟨_, _, rfl, by simp [frameA, bodyARd]⟩
    | B =>
      simp only [State.encBRd, State.buildB_eq]
      exact .inl ⟨_, _, rfl, hB _ _ _ _ (readWindow_length _ _)⟩
  · rw [if_neg ho]
    cases s.cfg.variant with
    | A =>
      simp only [State.encAWr_eq]
      by_cases h : 6 < s.suppliedValues.length
      · simp only [if_pos h]; exact .inr trivial
      · simp only [if_neg h]; exact .inl ⟨_, _, rfl, hA _ (by omega) _ _⟩
    | B =>
      simp only [State.encBWr]
      by_cases h : 4 < s.subBlockValues.length
      · simp only [if_pos h]; exact .inr trivial
      · simp only [if_neg h, State.buildB_eq]
        refine .inl ⟨_, _, rfl, hB _ _ _ _ ?_⟩
        simp only [writeWindow, List.length_append, le16s_length, List.length_replicate]
        omega

/-- SEND: WAIT with no attempt made, or TransportError. -/
theorem State.stepSend_cases (s : State) :
    (s.sendAnswer = .ok ∧
      s.stepSend = { s.afterSendAnswer.emit (.sent s.txbuf .ok) with tries := 0, seq := .wait }) ∨
    (s.sendAnswer = .failure ∧
      s.stepSend = (s.afterSendAnswer.emit (.sent s.txbuf .failure)).raise .transportError) := by
  unfold State.stepSend
  rcases State.sendFrame_cases s.txbuf s with ⟨h, e⟩ | ⟨h, e⟩
  · exact .inl ⟨h, by rw [e]⟩
  · exact .inr ⟨h, by rw [e]⟩

/-- WAIT: what follows a response, another attempt, or one of the two faults. -/
theorem State.stepWait_cases (s : State) :
    (∃ x xs, s.recvAnswer s.cfg.rxCap = .bytes (x :: xs) ∧ s.stepWait = (s.afterReceive s.cfg.rxCap).onResponse) ∨
    (s.recvAnswer s.cfg.rxCap = .failure ∧ s.stepWait = (s.afterReceive s.cfg.rxCap).raise .transportError) ∨
    ((s.recvAnswer s.cfg.rxCap = .timeout ∨ s.recvAnswer s.cfg.rxCap = .bytes []) ∧
      ((s.cfg.waitMode = .deadline ∧ s.stepWait = (s.afterReceive s.cfg.rxCap).raise .timeoutError) ∨
       (s.cfg.waitMode = .poll ∧ limitReached s.cfg.retryLimit (s.tries + 1) = true ∧
         s.stepWait = State.raise .timeoutError { s.afterReceive s.cfg.rxCap with tries := s.tries + 1 }) ∨
       (s.cfg.waitMode = .poll ∧ limitReached s.cfg.retryLimit (s.tries + 1) = false ∧
         s.stepWait = { s.afterReceive s.cfg.rxCap with tries := s.tries + 1 }))) := by
  unfold State.stepWait
  rcases State.attempt_cases s with ⟨x, xs, h, e⟩ | ⟨h, e⟩ | ⟨h, e⟩
  · exact .inl ⟨x, xs, h, by rw [e]⟩
  · exact .inr (.inl ⟨h, by rw [e]⟩)
  · refine .inr (.inr ⟨h, ?_⟩)
    rcases State.noResponse_cases (s.afterReceive s.cfg.rxCap) with ⟨hm, en⟩ | ⟨hm, hl, en⟩ | ⟨hm, hl, en⟩
    · exact .inl ⟨by simpa using hm, by rw [e, en]⟩
    · exact .inr (.inl ⟨by simpa using hm, by simpa using hl, by rw [e, en]; simp⟩)
    · exact .inr (.inr ⟨by simpa using hm, by simpa using hl, by rw [e, en]; simp⟩)

/-- What follows a response in WAIT. -/
theorem State.onResponse_cases (s : State) :
    (s.busy = true ∧ s.op = opRdreg ∧ s.onResponse = { s with seq := .decode }) ∨
    (s.busy = true ∧ s.op ≠ opRdreg ∧ s.sb.toNat + 1 < s.nsb.toNat ∧ s.onResponse = s.nextExchange) ∨
    (s.busy = true ∧ s.op ≠ opRdreg ∧ ¬s.sb.toNat + 1 < s.nsb.toNat ∧ s.onResponse = s.complete) ∨
    (s.busy = false ∧ s.onResponse = { s with seq := .idle, res := .bytes s.rxbuf }) := by
  unfold State.onResponse State.moreExchanges
  cases hb : s.busy with
  | false => exact .inr (.inr (.inr ⟨rfl, by simp⟩))
  | true =>
    by_cases ho : s.op = opRdreg
    · exact .inl ⟨rfl, ho, by simp [ho]⟩
    · by_cases hm : s.sb.toNat + 1 < s.nsb.toNat
      · exact .inr (.inl ⟨rfl, ho, hm, by simp [ho, hm]⟩)
      · exact .inr (.inr (.inl ⟨rfl, ho, hm, by simp [ho, hm]⟩))

/-- DECODE: the decoder's fault, or the fields staged and what follows them; besides STG the decoder writes
START, ESCP and ACC at most. -/
theorem State.stepDecode_cases (s : State) :
    ∃ st e a, (∃ c, s.stepDecode = State.raise c { s with start := st, escp := e, acc := a }) ∨
      (∃ g, s.stepDecode = State.onDecoded { s with start := st, escp := e, acc := a, stg := g }) := by
  unfold State.stepDecode
  cases s.cfg.variant with
  | A =>
    obtain ⟨a, ⟨f, h⟩ | ⟨c, h⟩⟩ := State.decA_frame s.rxbuf s
    · exact ⟨s.start, s.escp, a, .inr ⟨f, by simp only [h]⟩⟩
    · exact ⟨s.start, s.escp, a, .inl ⟨c, by simp only [h]⟩⟩
  | B =>
    obtain ⟨st, e, a, ⟨f, h⟩ | ⟨c, h⟩⟩ := State.decB_frame s.rxbuf s
    · exact ⟨st, e, a, .inr ⟨stageB s.sb f s.stg, by simp only [h]⟩⟩
    · exact ⟨st, e, a, .inl ⟨c, by simp only [h]⟩⟩

/-- What follows a decoded response. -/
theorem State.onDecoded_cases (s : State) :
    (s.sb.toNat + 1 < s.nsb.toNat ∧ s.onDecoded = s.nextExchange) ∨
    (¬s.sb.toNat + 1 < s.nsb.toNat ∧ s.onDecoded = s.commit.complete) := by
  unfold State.onDecoded State.moreExchanges
  by_cases hm : s.sb.toNat + 1 < s.nsb.toNat
  · exact .inl ⟨hm, by simp [hm]⟩
  · exact .inr ⟨hm, by simp [hm]⟩

/-! ### The ports and the step -/

/-- A command record is a WRREG, an RDREG, a RESET or of an illegal code (30_encoding.md R109, R110). -/
theorem present_cases (c : Command) (s : State) :
    (c.op = 1 ∧ present c s = .next (s.registerCommand c)) ∨
    (c.op = 2 ∧ present c s = .next (s.registerCommand c)) ∨
    (c.op = 15 ∧ present c s = .next s.resetRegisters) ∨
    (c.op ≠ 1 ∧ c.op ≠ 2 ∧ c.op ≠ 15 ∧ present c s = .next (s.illegalCommand c)) := by
  obtain ⟨op, name, dev, count, values⟩ := c
  unfold present decodeCommand
  simp only
  split
  · rename_i h
    split at h
    · rename_i hop
      have ho : op = 1 := BitVec.eq_of_toNat_eq hop
      cases h; subst ho; exact .inl ⟨rfl, rfl⟩
    · rename_i hop
      have ho : op = 2 := BitVec.eq_of_toNat_eq hop
      cases h; subst ho; exact .inr (.inl ⟨rfl, rfl⟩)
    · rename_i hop
      have ho : op = 15 := BitVec.eq_of_toNat_eq hop
      cases h; subst ho; exact .inr (.inr (.inl ⟨rfl, rfl⟩))
    · cases h
  · rename_i h
    split at h
    · cases h
    · cases h
    · cases h
    · rename_i h1 h2 h3
      exact .inr (.inr (.inr ⟨fun e => h1 (by rw [e]; rfl), fun e => h2 (by rw [e]; rfl),
        fun e => h3 (by rw [e]; rfl), rfl⟩))

/-- What a direct issue does (log 6). -/
theorem issue_cases (image : List Byte) (s : State) :
    (∃ e, decode image = .error e ∧ issue image s = .refused (.undecodable e)) ∨
    (∃ i r, decode image = .ok (i, r) ∧ s.busy = true ∧ isHostCommand i = false ∧
      issue image s = .next s.refuseBusy) ∨
    (∃ i r, decode image = .ok (i, r) ∧ (s.busy = false ∨ isHostCommand i = true) ∧ issue image s = exec i s) := by
  unfold issue
  split
  · rename_i i r h
    cases hb : s.busy <;> cases hh : isHostCommand i
    · exact .inr (.inr ⟨i, r, h, .inl rfl, by simp⟩)
    · exact .inr (.inr ⟨i, r, h, .inl rfl, by simp⟩)
    · exact .inr (.inl ⟨i, r, h, rfl, hh, by simp⟩)
    · exact .inr (.inr ⟨i, r, h, .inr hh, by simp⟩)
  · rename_i e h; exact .inl ⟨e, h, rfl⟩

/-- A step takes the first input, or advances the sequencer. -/
theorem step_cases (s : State) :
    (s.inputs = [] ∧ step s = .next s.advance) ∨
    (∃ i rest, s.inputs = i :: rest ∧ step s = take i { s with inputs := rest }) := by
  unfold step
  cases h : s.inputs with
  | nil => exact .inl ⟨rfl, rfl⟩
  | cons i rest => exact .inr ⟨i, rest, rfl, rfl⟩

end Sys2Proof.Machine
end

