-- ==== Sys2Proof/Laws/PerInstr.lean ====
section
/-! SUPPORT. The family EncodesItsRow of LAWS.json: the bytes of every operation begin with the pattern of its row of
spec/opcode_table.json (30_encoding.md R104, R109). -/

namespace Sys2Proof.Laws.EncodesItsRow

/-- What the bytes of an operation's row begin with: its code, or a frame's bytes up to the one that tells its
format. -/
def rowStart : Instr → List Byte
  | .wrreg _ _ _ _ => [0x01]
  | .rdreg _ _ _ _ => [0x02]
  | .reset => [0x0F]
  | .lookup _ => [0x10]
  | .cksum _ => [0x11]
  | .encAWr _ _ _ => [0x12]
  | .encARd _ _ => [0x13]
  | .encBWr _ _ => [0x14]
  | .encBRd _ _ => [0x15]
  | .stuff _ => [0x16]
  | .unstuff _ => [0x17]
  | .decA _ => [0x18]
  | .decB _ => [0x19]
  | .sanClamp _ => [0x1A]
  | .sanSigned _ => [0x1B]
  | .send _ => [0x1C]
  | .recv _ _ => [0x1D]
  | .waitrsp => [0x1E]
  | .frameAWr dev len _ _ _ => [0xEB, 0x90, dev, len, 0x12]
  | .frameARd dev len _ _ _ => [0xEB, 0x90, dev, len, 0x11]
  | .frameBWr _ => [0xAA, 0xAA]
  | .frameBRd _ => [0xAA, 0xAA]

/-- The bytes of the operation begin with its row's pattern. -/
def Statement (i : Instr) : Prop := rowStart i <+: encode i

theorem wrreg (n d : Byte) (c : BitVec 4) (v : Six Half) : Statement (.wrreg n d c v) := ⟨_, rfl⟩

theorem rdreg (n d : Byte) (c : BitVec 4) (v : Six Half) : Statement (.rdreg n d c v) := ⟨_, rfl⟩

theorem reset : Statement (.reset) := ⟨_, rfl⟩

theorem lookup (n : Byte) : Statement (.lookup n) := ⟨_, rfl⟩

theorem cksum (b : List Byte) : Statement (.cksum b) := ⟨_, rfl⟩

theorem encAWr (d : Byte) (a : Half) (v : List Half) : Statement (.encAWr d a v) := ⟨_, rfl⟩

theorem encARd (d : Byte) (a : Half) : Statement (.encARd d a) := ⟨_, rfl⟩

theorem encBWr (a : Half) (v : List Half) : Statement (.encBWr a v) := ⟨_, rfl⟩

theorem encBRd (a : Half) (c : Byte) : Statement (.encBRd a c) := ⟨_, rfl⟩

theorem stuff (b : List Byte) : Statement (.stuff b) := ⟨_, rfl⟩

theorem unstuff (b : List Byte) : Statement (.unstuff b) := ⟨_, rfl⟩

theorem decA (raw : List Byte) : Statement (.decA raw) := ⟨_, rfl⟩

theorem decB (raw : List Byte) : Statement (.decB raw) := ⟨_, rfl⟩

theorem sanClamp (u : Half) : Statement (.sanClamp u) := ⟨_, rfl⟩

theorem sanSigned (u : Half) : Statement (.sanSigned u) := ⟨_, rfl⟩

theorem send (b : List Byte) : Statement (.send b) := ⟨_, rfl⟩

theorem recv (max t : Half) : Statement (.recv max t) := ⟨_, rfl⟩

theorem waitrsp : Statement (.waitrsp) := ⟨_, rfl⟩

theorem frameAWr (d l : Byte) (a : Half) (v : List Half) (k : Byte) : Statement (.frameAWr d l a v k) := ⟨_, rfl⟩

theorem frameARd (d l : Byte) (a : Half) (r k : Byte) : Statement (.frameARd d l a r k) := ⟨_, rfl⟩

theorem frameBWr (f : BFrame) : Statement (.frameBWr f) := ⟨Sys2Proof.stuff (f.range ++ [f.ck]) ++ f.tail, by simp [rowStart, encode, encodeFrameB]⟩

theorem frameBRd (f : BFrame) : Statement (.frameBRd f) := ⟨Sys2Proof.stuff (f.range ++ [f.ck]) ++ f.tail, by simp [rowStart, encode, encodeFrameB]⟩

end Sys2Proof.Laws.EncodesItsRow
end

