-- ==== Sys2Proof/Laws/Step.lean ====
section
/-! SUPPORT. What one step can do, input by input, said once; the proofs about every step cite these. -/

namespace Sys2Proof.Machine

/-- An image is a RESET exactly when it begins with its code (30_encoding.md R109). -/
theorem decode_reset_iff (image : List Byte) (i : Instr) (r : List Byte) (h : decode image = .ok (i, r)) :
    (image.head? = some 0x0F → i = .reset) ∧ (i = .reset → image.head? = some 0x0F) := by
  cases image with
  | nil => cases h
  | cons b rest =>
    simp only [List.head?_cons, Option.some.injEq]
    simp only [decode] at h
    by_cases hh : isHostCode b = true
    · rw [if_pos hh, decodeHost] at h
      cases hr : decodeRecord b rest with
      | error e => rw [hr] at h; cases h
      | ok p =>
        obtain ⟨c, r'⟩ := p
        rw [hr] at h
        have hc : c.op = b := by
          unfold decodeRecord at hr
          split at hr
          · split at hr
            · cases hr
            · injection hr with hr; injection hr with h1 h2; rw [← h1]
          · cases hr
        subst hc
        simp only [isHostCode, Bool.or_eq_true, beq_iff_eq] at hh
        rcases hh with (hb | hb) | hb <;> simp only [decodeCommand, hb] at h <;> simp at h <;> simp [hb, ← h.1]
    · rw [if_neg hh] at h
      have hb : b ≠ 0x0F := by rintro rfl; exact hh (by decide)
      refine ⟨fun e => absurd e hb, ?_⟩
      rintro rfl
      exfalso
      split at h
      · cases rest with
        | nil => cases h
        | cons b1 rest =>
          simp only at h
          split at h
          · unfold decodeFrameA at h
            repeat' split at h
            all_goals cases h
          · cases h
      · split at h
        · cases rest with
          | nil => cases h
          | cons b1 rest =>
            simp only at h
            split at h
            · unfold decodeFrameB at h
              split at h
              · cases h
              · simp only at h
                repeat' split at h
                all_goals cases h
              · cases h
            · cases h
        · unfold decodeInternal decodeCounted at h
          repeat' split at h
          all_goals cases h

/-- What taking an input other than a reset can do: a transition of the sequencer, a command's acceptance or refusal, a
register read or write, or an operation issued while no transaction is in flight. -/
def StepEffect (u t : State) : Prop :=
  t = u.advance ∨ (∃ c : Command, (c.op = 1 ∨ c.op = 2) ∧ t = u.registerCommand c) ∨
    (∃ c, t = u.illegalCommand c) ∨ t = u.refuseBusy ∨ (∃ n v, t = u.emit (.readData n v)) ∨ t = u ∨
    (u.busy = false ∧ ∃ n v, t = u.writeOperand n v) ∨
    (u.busy = false ∧ ∃ i, isHostCommand i = false ∧ exec i u = .next t)

/-- A command record other than a RESET. -/
theorem present_effect (c : Command) (u t : State) (hc : c.op ≠ 15) (e : present c u = .next t) : StepEffect u t := by
  rcases present_cases c u with ⟨k, e'⟩ | ⟨k, e'⟩ | ⟨k, e'⟩ | ⟨-, -, -, e'⟩
  · rw [e'] at e; injection e with e; exact .inr (.inl ⟨c, .inl k, e.symm⟩)
  · rw [e'] at e; injection e with e; exact .inr (.inl ⟨c, .inr k, e.symm⟩)
  · exact absurd k hc
  · rw [e'] at e; injection e with e; exact .inr (.inr (.inl ⟨c, e.symm⟩))

/-- One input other than a reset. -/
theorem take_effect (i : Input) (u t : State) (hr : isResetInput i = false) (h : take i u = .next t) : StepEffect u t := by
  cases i with
  | idle => injection h with h; exact .inl h.symm
  | command c => exact present_effect c u t (by simpa [isResetInput] using hr) h
  | issue image =>
    have h : issue image u = .next t := h
    rcases issue_cases image u with ⟨k, -, e'⟩ | ⟨i, r, -, -, -, e'⟩ | ⟨i, r, hd, hb, e'⟩ <;> rw [e'] at h
    · cases h
    · injection h with h; exact .inr (.inr (.inr (.inl h.symm)))
    · have hne : i ≠ .reset := fun e => by
        have := (decode_reset_iff image i r hd).2 e
        simp [isResetInput, this] at hr
      cases i with
      | reset => exact absurd rfl hne
      | wrreg n d c v => injection h with h; exact .inr (.inl ⟨_, .inl rfl, h.symm⟩)
      | rdreg n d c v => injection h with h; exact .inr (.inl ⟨_, .inr rfl, h.symm⟩)
      | _ =>
        rcases hb with hb | hb
        · exact .inr (.inr (.inr (.inr (.inr (.inr (.inr ⟨hb, _, rfl, h⟩))))))
        · simp [isHostCommand] at hb
  | hostRead n =>
    have h : hostRead n u = .next t := h
    unfold hostRead at h
    split at h
    · cases h
    repeat' split at h
    all_goals first | (cases h; done) | (injection h with h; exact .inr (.inr (.inr (.inr (.inl ⟨_, _, h.symm⟩)))))
  | hostWrite n v =>
    have h : hostWrite n v u = .next t := h
    unfold hostWrite at h
    split at h
    · rename_i h0
      refine present_effect (u.commandOf v) u t (fun e => ?_) h
      simp only [State.commandOf] at e
      simp [isResetInput, h0] at hr
      exact hr e
    split at h
    · split at h
      · injection h with h; exact .inr (.inr (.inr (.inr (.inr (.inl h.symm)))))
      · rename_i hb
        injection h with h; exact .inr (.inr (.inr (.inr (.inr (.inr (.inl ⟨by simpa using hb, _, _, h.symm⟩))))))
    · split at h <;> cases h
  | powerOn => simp [isResetInput] at hr

/-- What a step that takes no reset can do. -/
theorem step_effect (s t : State) (h : step s = .next t) (hr : resetPresented s = false) :
    StepEffect { s with inputs := s.inputs.tail } t := by
  rcases step_cases s with ⟨hi, e'⟩ | ⟨i, rest, hi, e'⟩ <;> rw [e'] at h
  · injection h with h
    have : ({ s with inputs := s.inputs.tail } : State) = s := by rw [hi, List.tail_nil, ← hi]
    rw [this]; exact .inl h.symm
  · simp only [resetPresented, hi] at hr
    rw [hi]
    exact take_effect i _ t hr h

/-- A step that takes a reset leaves the registers reset (70_reset_and_hazards.md R320). -/
theorem step_reset (s t : State) (h : step s = .next t) (hr : resetPresented s = true) :
    t = State.resetRegisters { s with inputs := s.inputs.tail } := by
  rcases step_cases s with ⟨hi, e'⟩ | ⟨i, rest, hi, e'⟩ <;> rw [e'] at h <;> simp only [resetPresented, hi] at hr
  · cases hr
  rw [hi]; simp only [List.tail_cons]
  generalize ({ s with inputs := rest } : State) = u at *
  have pr : ∀ c : Command, c.op = 15 → present c u = .next t → t = u.resetRegisters := by
    intro c hc e
    rcases present_cases c u with ⟨k, e'⟩ | ⟨k, e'⟩ | ⟨k, e'⟩ | ⟨-, -, k, e'⟩
    · rw [hc] at k; cases k
    · rw [hc] at k; cases k
    · rw [e'] at e; injection e with e; exact e.symm
    · exact absurd hc k
  cases i with
  | idle => cases hr
  | command c => exact pr c (by simpa [isResetInput] using hr) h
  | issue image =>
    have h : issue image u = .next t := h
    have hh : image.head? = some 0x0F := by simpa [isResetInput] using hr
    rcases issue_cases image u with ⟨k, -, e'⟩ | ⟨i, r, hd, -, hi, e'⟩ | ⟨i, r, hd, -, e'⟩ <;> rw [e'] at h
    · cases h
    · rw [(decode_reset_iff image i r hd).1 hh] at hi; cases hi
    · rw [(decode_reset_iff image i r hd).1 hh] at h; injection h with h; exact h.symm
  | hostRead n => cases hr
  | hostWrite n v =>
    have h : hostWrite n v u = .next t := h
    simp [isResetInput] at hr
    obtain ⟨rfl, hv⟩ := hr
    exact pr (u.commandOf v) hv h
  | powerOn => injection h with h; exact h.symm

/-- A run of one more step. -/
theorem runsTo_succ (k : Nat) (s t : State) : runsTo (k + 1) s t ↔ ∃ u, step s = .next u ∧ runsTo k u t := by
  have hc : Sys2Proof.core.step s = step s := rfl
  simp only [runsTo, Host.Core.run, hc]
  cases h : step s with
  | next u => simp
  | fault r => simp
  | refused r => simp

end Sys2Proof.Machine
end

