-- ==== Sys2Proof/Tests/Slice0.lean ====
section
/-! SUPPORT. Tests of one step each, on expected values of 95_test_vectors.md, decoding of bytes written out from
30_encoding.md, the well-formedness smoke tests, and witnesses of the statements' hypotheses. -/

namespace Sys2Proof.Machine.Tests

/-! ### Well-formedness: an ill-formed term for each check -/

/-- The frame of V-EB22, ENC.B.RD(680, 4). -/
def readFrame : BFrame :=
  ⟨0x00AA3FFF, [0, 0, 0, 0, 0, 0, 0, 0], 0, [0x00, 0x01, 0x00], 0xE9, [0x55, 0x55]⟩

/-- The frame of V-EB9, ENC.B.WR(680, [1]). -/
def writeFrame : BFrame :=
  ⟨0x04AA3FFF, [1, 0, 0, 0, 0, 0, 0, 0], 2, [0x00, 0x01, 0x00], 0xF0, [0x55, 0x55]⟩

/-- A frame with the checksum that belongs to it. -/
def summed (f : BFrame) : BFrame := { f with ck := sum8 f.range }

theorem test_wf_good : wellFormed (.frameBWr writeFrame) = true ∧ wellFormed (.frameBRd readFrame) = true := by
  decide

theorem test_wf_image_length : fitsImage (List.replicate 65536 0) = false := by
  simp only [fitsImage, List.length_replicate]; decide

theorem test_wf_value_count : wellFormed (.encAWr 0 0 (List.replicate 256 0)) = false := by
  simp only [wellFormed, valsFit, List.length_replicate]; decide

theorem test_wf_value_count_b : wellFormed (.encBWr 0 (List.replicate 256 0)) = false := by
  simp only [wellFormed, valsFit, List.length_replicate]; decide

theorem test_wf_requested_count : wellFormed (.encBRd 1522 3) = false := by decide

theorem test_wf_empty_send : wellFormed (.send []) = false := by decide

theorem test_wf_a_write_values :
    wellFormed (.frameAWr 1 17 1486 [0, 0, 0, 0, 0, 0, 0] (sum8 (frameAWrRange 1 17 1486 [0, 0, 0, 0, 0, 0, 0])))
      = false := by decide

theorem test_wf_a_write_length :
    wellFormed (.frameAWr 1 6 1486 [1000] (sum8 (frameAWrRange 1 6 1486 [1000]))) = false := by decide

theorem test_wf_a_write_checksum : wellFormed (.frameAWr 1 5 1486 [1000] 0xD7) = false := by decide

theorem test_wf_a_read_response_length :
    wellFormed (.frameARd 1 3 1546 0x0B (sum8 (frameARdRange 1 3 1546 0x0B))) = false := by decide

theorem test_wf_a_read_checksum : wellFormed (.frameARd 1 3 1546 0x0C 0x32) = false := by decide

theorem test_wf_b_identifier : wellFormed (.frameBRd (summed { readFrame with id := 0x00AA3FFE })) = false := by
  decide

theorem test_wf_b_window : wellFormed (.frameBRd (summed { readFrame with window := [0, 0, 0, 0, 0, 0, 0] })) = false := by
  decide

theorem test_wf_b_extension : wellFormed (.frameBRd (summed { readFrame with ext := [0, 0, 0] })) = false := by decide

theorem test_wf_b_checksum : wellFormed (.frameBRd { readFrame with ck := 0xE8 }) = false := by decide

theorem test_wf_b_tail : wellFormed (.frameBRd { readFrame with tail := [0x55, 0x54] }) = false := by decide

theorem test_wf_b_write_class : wellFormed (.frameBWr (summed { writeFrame with id := 0x00AA3FFF })) = false := by decide

theorem test_wf_b_write_range : wellFormed (.frameBWr (summed { writeFrame with id := 0x08003FFF })) = false := by
  decide

theorem test_wf_b_read_class : wellFormed (.frameBRd (summed { readFrame with id := 0x04AA3FFF })) = false := by decide

theorem test_wf_b_write_length : wellFormed (.frameBWr (summed { writeFrame with dataLen := 10 })) = false := by decide

theorem test_wf_b_write_odd : wellFormed (.frameBWr (summed { writeFrame with dataLen := 3 })) = false := by decide

theorem test_wf_b_write_padding : wellFormed (.frameBWr (summed { writeFrame with dataLen := 0 })) = false := by decide

theorem test_wf_b_read_window :
    wellFormed (.frameBRd (summed { readFrame with window := [8, 0, 0, 0, 0, 0, 0, 0] })) = false := by decide

theorem test_wf_b_read_count :
    wellFormed (.frameBRd (summed { readFrame with dataLen := 1, window := [6, 0, 0, 0, 0, 0, 0, 0] })) = false := by
  decide

/-! ### Decoding: bytes written out from 30_encoding.md R92, R93, R96, R101, R108, R109 -/

theorem test_decode_wrreg :
    decode [0x01, 0x02, 0x01, 0x02, 0xE8, 0x03, 0xFF, 0xFF, 0, 0, 0, 0, 0, 0, 0, 0] =
      .ok (.wrreg 2 1 2 ⟨1000, 65535, 0, 0, 0, 0⟩, []) := by decide

theorem test_decode_rdreg :
    decode [0x02, 0x04, 0x07, 0x06, 0, 0, 0, 0, 0, 0, 0, 0, 0, 0, 0, 0] =
      .ok (.rdreg 4 7 6 ⟨0, 0, 0, 0, 0, 0⟩, []) := by decide

theorem test_decode_reset :
    decode [0x0F, 0x01, 0x02, 0x03, 0, 0, 0, 0, 0, 0, 0, 0, 0, 0, 0, 0] = .ok (.reset, []) := by decide

theorem test_decode_lookup : decode [0x10, 0x03] = .ok (.lookup 3, []) := by decide

theorem test_decode_cksum : decode [0x11, 0x02, 0x00, 0xFF, 0x01, 0x77] = .ok (.cksum [0xFF, 0x01], [0x77]) := by decide

theorem test_decode_encAWr :
    decode [0x12, 0x01, 0xF2, 0x05, 0x02, 0x64, 0x00, 0xFF, 0xFF] = .ok (.encAWr 1 1522 [100, 65535], []) := by decide

theorem test_decode_encARd : decode [0x13, 0x01, 0x0A, 0x06] = .ok (.encARd 1 1546, []) := by decide

theorem test_decode_encBWr : decode [0x14, 0xF2, 0x05, 0x01, 0x13, 0x00] = .ok (.encBWr 1522 [19], []) := by decide

theorem test_decode_encBRd : decode [0x15, 0xF2, 0x05, 0x04] = .ok (.encBRd 1522 4, []) := by decide

theorem test_decode_stuff : decode [0x16, 0x01, 0x00, 0xAA] = .ok (.stuff [0xAA], []) := by decide

theorem test_decode_unstuff : decode [0x17, 0x02, 0x00, 0xA5, 0xAA] = .ok (.unstuff [0xA5, 0xAA], []) := by decide

theorem test_decode_decA : decode [0x18, 0x01, 0x00, 0xEB] = .ok (.decA [0xEB], []) := by decide

theorem test_decode_decB : decode [0x19, 0x01, 0x00, 0xAA] = .ok (.decB [0xAA], []) := by decide

theorem test_decode_sanClamp : decode [0x1A, 0x71, 0x17] = .ok (.sanClamp 6001, []) := by decide

theorem test_decode_sanSigned : decode [0x1B, 0x40, 0x9C] = .ok (.sanSigned 40000, []) := by decide

theorem test_decode_send : decode [0x1C, 0x01, 0x00, 0x5A] = .ok (.send [0x5A], []) := by decide

theorem test_decode_recv : decode [0x1D, 0x40, 0x00, 0x05, 0x01] = .ok (.recv 64 261, []) := by decide

theorem test_decode_waitrsp : decode [0x1E] = .ok (.waitrsp, []) := by decide

/-- V-EA3. -/
theorem test_decode_frameAWr :
    decode [0xEB, 0x90, 0x01, 0x05, 0x12, 0xCE, 0x05, 0xE8, 0x03, 0xD6] =
      .ok (.frameAWr 1 5 1486 [1000] 0xD6, []) := by decide

/-- V-EA10. -/
theorem test_decode_frameARd :
    decode [0xEB, 0x90, 0x01, 0x03, 0x11, 0x0A, 0x06, 0x0C, 0x31] = .ok (.frameARd 1 3 1546 0x0C 0x31, []) := by decide

/-- V-EB9, an escaped identifier byte. -/
theorem test_decode_frameBWr :
    decode [0xAA, 0xAA, 0xFF, 0x3F, 0xA5, 0xAA, 0x04, 0x01, 0x00, 0x00, 0x00, 0x00, 0x00, 0x00, 0x00, 0x02, 0x00,
      0x01, 0x00, 0xF0, 0x55, 0x55] = .ok (.frameBWr writeFrame, []) := by decide

/-- V-EB22. -/
theorem test_decode_frameBRd :
    decode [0xAA, 0xAA, 0xFF, 0x3F, 0xA5, 0xAA, 0x00, 0x00, 0x00, 0x00, 0x00, 0x00, 0x00, 0x00, 0x00, 0x00, 0x00,
      0x01, 0x00, 0xE9, 0x55, 0x55] = .ok (.frameBRd readFrame, []) := by decide

theorem test_decode_unassigned_code : decode [0x1F, 0x00] = .error (.unknownCode 0x1F) := by decide

theorem test_decode_count_field :
    decode [0x01, 0x00, 0x00, 0x10, 0, 0, 0, 0, 0, 0, 0, 0, 0, 0, 0, 0] = .error (.countField 0x10) := by decide

theorem test_decode_identifier_class :
    decode ([0xAA, 0xAA, 0xFF, 0x3F, 0x00, 0x08] ++ List.replicate 13 0 ++ [0x55, 0x55]) =
      .error (.identifierClass 0x08) := by decide

/-! ### One step each, on the vectors of 95_test_vectors.md -/

/-- The next state of an outcome. -/
def after (o : Host.Outcome State Fault Refusal) : Option State :=
  match o with
  | .next s => some s
  | .fault _ => none
  | .refused _ => none

/-- An instance after reset. -/
def fresh (v : Variant) : State := State.resetWith { Config.default with variant := v }

/-- V-LK5. -/
theorem test_lookup : (after (exec (.lookup 4) State.reset)).map (fun t => (t.addr, t.cls)) = some (1582, .signed) := by
  decide

/-- V-LK6. -/
theorem test_lookup_unknown : (after (exec (.lookup 9) State.reset)).map (fun t => (t.fault, t.addr)) = some (1, 0) := by
  decide

/-- V-CK7. -/
theorem test_cksum : (after (exec (.cksum [0x01, 0x03, 0x11, 0x0A, 0x06, 0x0C]) State.reset)).map State.acc = some 0x31 := by
  decide

/-- V-CK3. -/
theorem test_cksum_wraps : (after (exec (.cksum [0xFF, 0x01]) State.reset)).map State.acc = some 0x00 := by decide

/-- V-EA6. -/
theorem test_encAWr :
    (after (exec (.encAWr 255 65535 [0x8000, 0x7FFF]) State.reset)).map State.txbuf =
      some [0xEB, 0x90, 0xFF, 0x07, 0x12, 0xFF, 0xFF, 0x00, 0x80, 0xFF, 0x7F, 0x14] := by decide

/-- V-EA9. -/
theorem test_encAWr_seven :
    (after (exec (.encAWr 1 1486 [0, 0, 0, 0, 0, 0, 0]) State.reset)).map (fun t => (t.fault, t.txbuf)) =
      some (5, []) := by decide

/-- V-EA10. -/
theorem test_encARd :
    (after (exec (.encARd 1 1546) State.reset)).map State.txbuf =
      some [0xEB, 0x90, 0x01, 0x03, 0x11, 0x0A, 0x06, 0x0C, 0x31] := by decide

/-- V-EA14. -/
theorem test_encARd_length_byte :
    (after (exec (.encARd 1 1546) (State.resetWith { Config.default with aReadLen := 0x04 }))).map State.txbuf =
      some [0xEB, 0x90, 0x01, 0x04, 0x11, 0x0A, 0x06, 0x0C, 0x32] := by decide

/-- V-EB27, the longest frame. -/
theorem test_encBWr :
    (after (exec (.encBWr 2390 [0x5555, 0xA5A5, 0xA5A5, 0xA5A5]) State.reset)).map State.txbuf =
      some [0xAA, 0xAA, 0xFF, 0xBF, 0xA5, 0x55, 0x06, 0xA5, 0x55, 0xA5, 0x55, 0xA5, 0xA5, 0xA5, 0xA5, 0xA5, 0xA5, 0xA5,
        0xA5, 0xA5, 0xA5, 0xA5, 0xA5, 0x08, 0x00, 0x01, 0x00, 0xA5, 0xAA, 0x55, 0x55] := by decide

/-- V-EB14. -/
theorem test_encBWr_five : (after (exec (.encBWr 1522 [1, 2, 3, 4, 5]) State.reset)).map State.fault = some 5 := by decide

/-- V-EB15. -/
theorem test_encBRd :
    (after (exec (.encBRd 1522 4) State.reset)).map State.txbuf =
      some [0xAA, 0xAA, 0xFF, 0xBF, 0x7C, 0x01, 0, 0, 0, 0, 0, 0, 0, 0, 0, 0, 0x01, 0x00, 0x3C, 0x55, 0x55] := by decide

/-- V-EB24. -/
theorem test_encBRd_count_byte :
    (after (exec (.encBRd 1530 2) (State.resetWith { Config.default with bReadForm := .countByte }))).map State.txbuf =
      some [0xAA, 0xAA, 0xFF, 0xBF, 0x7E, 0x01, 4, 0, 0, 0, 0, 0, 0, 0, 1, 0, 0x01, 0x00, 0x43, 0x55, 0x55] := by decide

/-- V-ST10. -/
theorem test_stuff :
    (after (exec (.stuff [0xAA, 0x00, 0x55, 0x00, 0xA5, 0x00, 0xAA, 0x55]) State.reset)).map State.res =
      some (.bytes [0xA5, 0xAA, 0x00, 0xA5, 0x55, 0x00, 0xA5, 0xA5, 0x00, 0xA5, 0xAA, 0xA5, 0x55]) := by decide

/-- V-ST8. -/
theorem test_stuff_neighbours : stuff [0xA4, 0xA6, 0x54, 0x56, 0xAB, 0xA9] = [0xA4, 0xA6, 0x54, 0x56, 0xAB, 0xA9] := by
  decide

/-- V-US3. -/
theorem test_unstuff :
    (after (exec (.unstuff [0xA5, 0xA5, 0xA5]) State.reset)).map (fun t => (t.escp, t.res)) =
      some (true, .unstuffed [0xA5] true) := by decide

/-- V-US6. -/
theorem test_unstuff_unescaped :
    (after (exec (.unstuff [0xA5, 0xA5, 0x55]) State.reset)).map State.res = some (.unstuffed [0xA5, 0x55] false) := by
  decide

/-- The response of V-DA1. -/
def responseA : List Byte :=
  [0xEB, 0x90, 0x01, 0x0F, 0x11, 0xF2, 0x05, 0x64, 0x00, 0xC8, 0x00, 0x2C, 0x01, 0x90, 0x01, 0xF4, 0x01, 0x58, 0x02,
    0x51]

/-- V-DA8: one garbage byte shifts every field. -/
theorem test_decA :
    (after (exec (.decA (0x37 :: responseA)) State.reset)).map State.res =
      some (.six ⟨25605, 51200, 11264, 36865, 62465, 22529⟩) := by decide

/-- V-DA10. -/
theorem test_decA_checksum :
    (after (exec (.decA (responseA.take 19 ++ [0x50]))
      (State.resetWith { Config.default with rxVerify := true }))).map State.fault = some 6 := by decide

/-- V-DB6, the escape hazard. -/
def responseB : List Byte :=
  [0xAA, 0xAA, 0xFF, 0xBF, 0x82, 0x01, 0xE8, 0x03, 0xA5, 0xAA, 0x00, 0x2C, 0x01, 0x90, 0x01, 0x08, 0x00, 0x01, 0x00,
    0x9D, 0x55, 0x55]

/-- V-DB6 behind three garbage bytes. -/
theorem test_decB :
    (after (exec (.decB ([0x00, 0x13, 0x37] ++ responseB)) State.reset)).map (fun t => (t.start, t.res)) =
      some (3, .four ⟨1000, 43685, 11264, 36865⟩) := by decide

/-- V-DB7. -/
theorem test_decB_unstuff :
    (after (exec (.decB responseB) (State.resetWith { Config.default with rxUnstuff := true }))).map State.res =
      some (.four ⟨1000, 170, 300, 400⟩) := by decide

/-- 43_frame_decode.md R184: 6000 stays, 6001 is 0. -/
theorem test_sanClamp :
    (after (exec (.sanClamp 6000) State.reset)).map State.res = some (.value 6000) ∧
    (after (exec (.sanClamp 6001) State.reset)).map State.res = some (.value 0) := by decide

/-- 43_frame_decode.md R185: 32768 stays, 32769 is -32767. -/
theorem test_sanSigned :
    (after (exec (.sanSigned 32768) State.reset)).map State.res = some (.value 32768) ∧
    (after (exec (.sanSigned 32769) State.reset)).map State.res = some (.value (-32767)) := by decide

/-- A failing send (P8). -/
theorem test_send :
    (after (exec (.send [0x01]) { State.reset with sendAns := [.failure] })).map (fun t => (t.fault, t.err)) =
      some (3, true) := by decide

/-- 46_transport_wait.md R263: nothing of the old buffer stays. -/
theorem test_recv :
    (after (exec (.recv 64 0) { State.reset with rxbuf := [1, 2, 3], recvAns := [.bytes [7]] })).map State.rxbuf =
      some [7] := by decide

/-- 46_transport_wait.md R267: an empty buffer is one more try. -/
theorem test_waitrsp_poll :
    (after (exec .waitrsp { State.resetWith { Config.default with waitMode := .poll } with
      recvAns := [.bytes []] })).map (fun t => (t.seq, t.tries)) = some (.wait, 1) := by decide

/-- 46_transport_wait.md R268. -/
theorem test_waitrsp_deadline :
    (after (exec .waitrsp { State.reset with recvAns := [.bytes []] })).map State.fault = some 2 := by decide

/-- V-CMD7: forceSet, five values, two exchanges. -/
theorem test_wrreg :
    (after (exec (.wrreg 1 1 5 ⟨10, 20, 30, 40, 50, 0⟩) (fresh .B))).map (fun t => (t.addr, t.nsb, t.seq, t.busy)) =
      some (1498, 2, .build, true) := by decide

/-- P5: the count check comes before the lookup. -/
theorem test_rdreg_count :
    (after (exec (.rdreg 99 1 0 (Six.all 0)) (fresh .A))).map (fun t => (t.fault, t.finfo, t.busy)) =
      some (5, 0, false) := by decide

/-- V-CMD15. -/
theorem test_reset :
    (after (exec .reset { fresh .A with busy := true, seq := .wait, rxbuf := [1] })).map
      (fun t => (t.seq, t.busy, t.rxbuf)) = some (.idle, false, []) := by decide

/-- V-EA3, its frame as the wire row. -/
theorem test_frameAWr :
    (after (exec (.frameAWr 1 5 1486 [1000] 0xD6) State.reset)).map State.txbuf =
      some [0xEB, 0x90, 0x01, 0x05, 0x12, 0xCE, 0x05, 0xE8, 0x03, 0xD6] := by decide

/-- V-EA10, its frame as the wire row. -/
theorem test_frameARd :
    (after (exec (.frameARd 1 3 1546 0x0C 0x31) State.reset)).map State.txbuf =
      some [0xEB, 0x90, 0x01, 0x03, 0x11, 0x0A, 0x06, 0x0C, 0x31] := by decide

/-- V-EB9, its frame as the wire row. -/
theorem test_frameBWr :
    (after (exec (.frameBWr writeFrame) State.reset)).map State.txbuf =
      some [0xAA, 0xAA, 0xFF, 0x3F, 0xA5, 0xAA, 0x04, 0x01, 0, 0, 0, 0, 0, 0, 0, 0x02, 0x00, 0x01, 0x00, 0xF0, 0x55,
        0x55] := by decide

/-- V-EB22, its frame as the wire row. -/
theorem test_frameBRd :
    (after (exec (.frameBRd readFrame) State.reset)).map State.txbuf =
      some [0xAA, 0xAA, 0xFF, 0x3F, 0xA5, 0xAA, 0x00, 0, 0, 0, 0, 0, 0, 0, 0, 0x00, 0x00, 0x01, 0x00, 0xE9, 0x55,
        0x55] := by decide

/-! ### Witnesses: states and operands that meet the hypotheses of the statements, clause by clause -/

/-- A state with inputs and scripted answers. -/
def scripted (v : Variant) (i : List Input) (sa : List SendAnswer) (ra : List RecvAnswer) : State :=
  { fresh v with inputs := i, sendAns := sa, recvAns := ra }

/-- A transaction in flight. -/
def flying (v : Variant) (op : Byte) (n : BitVec 4) (q : Phase) (sb : BitVec 1) : State :=
  { fresh v with
    op := op
    count := n
    busy := true
    seq := q
    sb := sb
    nsb := exchangeCount v n.toNat
    addr := 1522 }

/-- A WRREG of speedSet with five values. -/
def writeFive : Command := ⟨0x01, 2, 1, 5, ⟨100, 200, 300, 400, 500, 600⟩⟩

/-- An RDREG of speedSet. -/
def readSix : Command := ⟨0x02, 2, 1, 6, Six.all 0⟩

/-- An instance that verifies. -/
def verifying : State := State.resetWith { Config.default with rxVerify := true }

theorem witness_StepRunsThePresentedOperation :
    (∃ (s : State) (image : List Byte) (rest : List Input) (i : Instr) (r : List Byte),
      s.inputs = .issue image :: rest ∧ decode image = .ok (i, r) ∧ wellFormed i = true ∧ s.busy = false) ∧
    (∃ (s : State) (c : Command) (rest : List Input) (i : Instr),
      s.inputs = .command c :: rest ∧ decodeCommand c = some i) :=
  ⟨⟨scripted .A [.issue [0x10, 0x03]] [] [], [0x10, 0x03], [], .lookup 3, [], rfl, by decide, by decide, rfl⟩,
    ⟨scripted .A [.command readSix] [] [], readSix, [], .rdreg 2 1 6 (Six.all 0), rfl, by decide⟩⟩

theorem witness_SequencerStepsWhenNothingIsPresented :
    (fresh .A).inputs = [] ∧ (scripted .B [.idle] [] []).inputs = [.idle] ∧ (fresh .A).seq = .idle := by decide

theorem witness_DecodeInvertsEncode :
    [Instr.wrreg 255 255 15 (Six.all 0xFFFF), .rdreg 0 0 0 (Six.all 0), .reset, .lookup 255, .cksum [0xFF],
      .encAWr 255 65535 [0xFFFF], .encARd 255 65535, .encBWr 65535 [0xFFFF], .encBRd 65535 2, .encBRd 0 4,
      .stuff [0xA5], .unstuff [0xA5], .decA [], .decB [0xAA], .sanClamp 65535, .sanSigned 65535, .send [0],
      .recv 65535 65535, .waitrsp, .frameAWr 1 3 1486 [] 0xE9, .frameARd 1 3 1546 0x0C 0x31, .frameBWr writeFrame,
      .frameBRd readFrame].all wellFormed = true := by decide

theorem witness_WireRowsBuildTheirFrame :
    wellFormed (.frameAWr 1 5 1486 [1000] 0xD6) = true ∧
    (wellFormed (.frameARd 1 3 1546 0x0C 0x31) = true ∧ (3 : Byte) = State.reset.cfg.aReadLen) ∧
    wellFormed (.frameBWr writeFrame) = true ∧
    (wellFormed (.frameBRd readFrame) = true ∧ State.reset.cfg.bReadForm = .empty ∧ readFrame.dataLen = 0) ∧
    (wellFormed (.frameBRd (summed { readFrame with dataLen := 1, window := [8, 0, 0, 0, 0, 0, 0, 0] })) = true ∧
      (State.resetWith { Config.default with bReadForm := .countByte }).cfg.bReadForm = .countByte) := by decide

theorem witness_AccumulatorDoesNotDependOnTheOrder : ([0xFF, 0x01] : List Byte).Perm [0x01, 0xFF] :=
  List.Perm.swap _ _ _

theorem witness_LookupFindsTheEntryOrFaults :
    State.reset.cfg.regmap.find? (fun e => e.name == 4) = some ⟨4, 1582, .signed⟩ ∧
    State.reset.cfg.regmap.find? (fun e => e.name == 5) = none ∧
    State.reset.cfg.regmap = Config.listedRegisters := by decide

theorem witness_SerialUnstufferComputesUnstuff : (0xA4 : Byte) ≠ 0xA5 := by decide

theorem witness_StuffedRegionHasNoUnescapedReservedByte : (List.replicate 8 (0 : Byte)).length = 8 := by decide

theorem witness_EncodeAWriteFrame :
    ([0, 0, 0, 0, 0, 0] : List Half).length ≤ 6 ∧ 6 < ([0, 0, 0, 0, 0, 0, 0] : List Half).length := by decide

theorem witness_EncodeBWriteFrame :
    ([0, 0, 0, 0] : List Half).length ≤ 4 ∧ 4 < ([0, 0, 0, 0, 0] : List Half).length := by decide

theorem witness_IdentifierFields :
    (4095 : Half).toNat < 4096 ∧ (61439 : Half).toNat + 4096 ≤ 65535 := by decide

theorem witness_BuiltFramesHaveAtMostTenEscapes :
    ([0x5555, 0xA5A5, 0xA5A5, 0xA5A5] : List Half).length ≤ 4 := by decide

theorem witness_DecodeAReadsSixFields :
    (State.reset.cfg.rxVerify = false ∧ 19 ≤ (responseA.take 19).length) ∧
    (State.reset.cfg.rxVerify = false ∧ (responseA.take 18).length < 19) ∧
    (verifying.cfg.rxVerify = true ∧ 20 ≤ responseA.length ∧
      responseA.getD 19 0 = BitVec.ofNat 8 (((responseA.take 19).drop 2).map BitVec.toNat).sum) ∧
    (verifying.cfg.rxVerify = true ∧ 20 ≤ (responseA.take 19 ++ [0x50]).length ∧
      (responseA.take 19 ++ [0x50]).getD 19 0 ≠
        BitVec.ofNat 8 ((((responseA.take 19 ++ [0x50]).take 19).drop 2).map BitVec.toNat).sum) ∧
    (verifying.cfg.rxVerify = true ∧ (responseA.take 19).length < 20) := by decide

/-- V-DB1. -/
def plainB : List Byte :=
  [0xAA, 0xAA, 0xFF, 0xBF, 0x7C, 0x01, 0x64, 0x00, 0xC8, 0x00, 0x2C, 0x01, 0x90, 0x01, 0x08, 0x00, 0x01, 0x00, 0x2E]

/-- The escaped response of 43_frame_decode.md R179 up to its checksum byte: twenty bytes, nineteen when unstuffed. -/
def escapedB : List Byte :=
  [0xAA, 0xAA, 0xFF, 0xBF, 0x82, 0x01, 0xE8, 0x03, 0xA5, 0xAA, 0x00, 0x2C, 0x01, 0x90, 0x01, 0x08, 0x00, 0x01, 0x00,
    0x9D]

/-- The options of a receiving instance. -/
def receiver (verify unstuffing : Bool) : Config :=
  { Config.default with variant := .B, rxVerify := verify, rxUnstuff := unstuffing }

/-- Each clause at its boundary, without RX_UNSTUFF. -/
theorem witness_DecodeBReadsFourFieldsFromTheMarker :
    (0xAA : Byte) ∉ ([0x00, 0x13] : List Byte) ∧
    ((0xAA : Byte) ∈ plainB.take 14 ∧ (bytesFromMarker (receiver false false) (plainB.take 14)).length = 14) ∧
    ((0xAA : Byte) ∈ plainB.take 13 ∧ (bytesFromMarker (receiver false false) (plainB.take 13)).length = 13) ∧
    ((0xAA : Byte) ∈ plainB ∧ (bytesFromMarker (receiver true false) plainB).length = 19 ∧
      (bytesFromMarker (receiver true false) plainB).getD 18 0 =
        BitVec.ofNat 8 ((((bytesFromMarker (receiver true false) plainB).take 18).drop 2).map BitVec.toNat).sum) ∧
    ((0xAA : Byte) ∈ plainB.take 18 ++ [0] ∧ (plainB.take 18 ++ [0]).length = 19 ∧
      (plainB.take 18 ++ [0]).getD 18 0 ≠
        BitVec.ofNat 8 ((((plainB.take 18 ++ [0]).take 18).drop 2).map BitVec.toNat).sum) ∧
    ((0xAA : Byte) ∈ plainB.take 18 ∧ (bytesFromMarker (receiver true false) (plainB.take 18)).length = 18) := by decide

/-- The same with RX_UNSTUFF, where the lengths are counted after unstuffing. -/
theorem witness_DecodeBReadsFourFieldsFromTheMarker_unstuffing :
    ((0xAA : Byte) ∈ escapedB ∧ (escapedB.take 15).length = 15 ∧
      (bytesFromMarker (receiver false true) (escapedB.take 15)).length = 14 ∧
      (bytesFromMarker (receiver false true) (escapedB.take 14)).length = 13) ∧
    ((bytesFromMarker (receiver true true) escapedB).length = 19 ∧
      (bytesFromMarker (receiver true true) escapedB).getD 18 0 =
        BitVec.ofNat 8 ((((bytesFromMarker (receiver true true) escapedB).take 18).drop 2).map BitVec.toNat).sum) ∧
    ((bytesFromMarker (receiver true true) (escapedB.take 19 ++ [0])).length = 19 ∧
      (bytesFromMarker (receiver true true) (escapedB.take 19 ++ [0])).getD 18 0 ≠
        BitVec.ofNat 8 ((((bytesFromMarker (receiver true true) escapedB).take 18).drop 2).map BitVec.toNat).sum) ∧
    (bytesFromMarker (receiver true true) (escapedB.take 19)).length = 18 := by decide

theorem witness_DecodeBWithUnstuffReturnsTheStuffedValues :
    (State.resetWith { Config.default with rxUnstuff := true }).cfg.rxUnstuff = true ∧
    (0xAA : Byte) ∉ ([0x00, 0x13, 0x37] : List Byte) := by decide

theorem witness_ResynchronisationSkipsGarbage :
    ((0xAA : Byte) ∉ ([0x00, 0x13, 0x37] : List Byte) ∧ (0xAA : Byte) ∈ plainB ∧
      ∃ t, exec (.decB plainB) State.reset = .next t) ∧
    ((0xAA : Byte) ∈ ([0xAA] : List Byte) ∧ State.reset.cfg.rxVerify = false ∧ State.reset.cfg.rxUnstuff = false ∧
      ∃ t, exec (.decB ([0xAA] ++ plainB.take 13)) State.reset = .next t ∧
        t.start + 14 ≤ ([0xAA] ++ plainB.take 13).length) :=
  ⟨⟨by decide, by decide, _, rfl⟩, by decide, rfl, rfl, _, rfl, by decide⟩

theorem witness_DecodersDoNotInspectTheOtherBytes :
    (19 ≤ (responseA.take 19).length ∧ 19 ≤ (List.replicate 7 0 ++ responseA.drop 7).length ∧
      ∀ i, i < 19 → 7 ≤ i → (responseA.take 19).getD i 0 = (List.replicate 7 0 ++ responseA.drop 7).getD i 0) ∧
    (State.reset.cfg.rxVerify = false ∧ State.reset.cfg.rxUnstuff = false ∧
      (0xAA : Byte) ∉ ([0x00] : List Byte) ∧ ([1, 2, 3, 4, 5] : List Byte).length = 5 ∧
      ([0, 0, 0, 0, 0] : List Byte).length = 5 ∧ ([1, 0, 2, 0, 3, 0, 4, 0] : List Byte).length = 8) := by decide

theorem witness_ClampAbove6000IsZero : 6000 < (6001 : Half).toNat ∧ (6000 : Half).toNat ≤ 6000 := by decide

theorem witness_SignedConversionDiffersFromTwosComplementAt32768Only :
    32768 < (32769 : Half).toNat ∧ (32768 : Half).toNat ≤ 32768 := by decide

theorem witness_SendHandsTheFrameOver :
    (scripted .A [] [.ok] []).sendAns = [.ok] ∧ (scripted .A [] [.failure] []).sendAns = [.failure] ∧
    (fresh .A).sendAns = [] := by decide

theorem witness_ReceiveReplacesTheBuffer :
    ((scripted .A [] [] [.bytes [7, 8]]).recvAns = [.bytes [7, 8]] ∧ ([7, 8] : List Byte).length ≤ (2 : Half).toNat ∧
      ([7, 8] : List Byte).length ≤ (scripted .A [] [] [.bytes [7, 8]]).cfg.rxCap) ∧
    (scripted .A [] [] [.timeout]).recvAns = [.timeout] ∧ (scripted .A [] [] [.failure]).recvAns = [.failure] := by decide

/-- A polling instance with a limit. -/
def polling (l : RetryLimit) (a : RecvAnswer) : State :=
  { State.resetWith { Config.default with waitMode := .poll, retryLimit := l } with recvAns := [a] }

theorem witness_WaitForResponseByDiscipline :
    ((scripted .A [] [] [.bytes [7]]).recvAns = [.bytes [7]] ∧ (scripted .A [] [] [.bytes [7]]).busy = false ∧
      ([7] : List Byte).length ≤ (scripted .A [] [] [.bytes [7]]).cfg.rxCap) ∧
    (scripted .A [] [] [.failure]).recvAns = [.failure] ∧
    ((scripted .A [] [] [.timeout]).recvAns = [.timeout] ∧ (scripted .A [] [] [.timeout]).cfg.waitMode = .deadline) ∧
    ((polling (.bounded 1) (.bytes [])).recvAns = [.bytes []] ∧ (polling (.bounded 1) (.bytes [])).busy = false ∧
      (polling (.bounded 1) (.bytes [])).cfg.retryLimit = .bounded 1) ∧
    ((polling (.bounded 2) .timeout).cfg.waitMode = .poll ∧
      (polling (.bounded 2) .timeout).cfg.retryLimit = .bounded 2) ∧
    (polling .unbounded .timeout).cfg.retryLimit = .unbounded := by decide

theorem witness_RegisterCommandsBegin :
    (fresh .B).busy = false ∧ 1 ≤ (1 : BitVec 4).toNat ∧ (6 : BitVec 4).toNat ≤ 6 ∧
    (fresh .B).cfg.regmap.find? (fun e => e.name == 2) = some ⟨2, 1522, .magnitude⟩ := by decide

theorem witness_BadCountEndsTheCommandBeforeLookup :
    (fresh .A).busy = false ∧ (0 : BitVec 4).toNat = 0 ∧ 6 < (7 : BitVec 4).toNat := by decide

theorem witness_UnknownNameEndsTheCommandBeforeAnyFrame :
    (fresh .A).busy = false ∧ 1 ≤ (1 : BitVec 4).toNat ∧ (1 : BitVec 4).toNat ≤ 6 ∧
    (fresh .A).cfg.regmap.find? (fun e => e.name == 5) = none := by decide

/-- A command of an illegal code. -/
def illegal : Command := ⟨0x10, 0, 0, 0, Six.all 0⟩

theorem witness_IllegalCommandEndsAtOnce :
    (scripted .A [.command illegal] [] []).inputs = [.command illegal] ∧
    (scripted .A [.command illegal] [] []).busy = false ∧
    illegal.op ≠ 0x01 ∧ illegal.op ≠ 0x02 ∧ illegal.op ≠ 0x0F := by decide

theorem witness_CommandsAreRefusedWhileBusy :
    ({ flying .A 0x01 1 .wait 0 with inputs := [.command readSix] } : State).inputs = [.command readSix] ∧
    (flying .A 0x01 1 .wait 0).busy = true ∧ readSix.op ≠ 0x0F ∧
    (⟨0x0F, 0, 0, 0, Six.all 0⟩ : Command).op = 0x0F := by decide

theorem witness_ResetLeavesTheListedValues :
    (scripted .A [.powerOn] [] []).inputs = [.powerOn] ∧
    Config.default.regmap = ⟨0, 1486, .magnitude⟩ :: Config.default.regmap.tail := by decide

theorem witness_FaultEntryWritesOnlyTheFaultState :
    (flying .B 0x01 5 .wait 1).busy = true ∧ (fresh .B).busy = false := by decide

theorem witness_BuildPhaseRunsTheEncoder :
    ((flying .A 0x01 6 .build 0).seq = .build ∧ (flying .A 0x01 6 .build 0).count.toNat ≤ 6 ∧
      (flying .A 0x01 6 .build 0).op = 0x01 ∧ (flying .A 0x01 6 .build 0).cfg.variant = .A) ∧
    ((flying .B 0x01 5 .build 0).cfg.variant = .B ∧ (flying .B 0x01 5 .build 0).sb = 0) ∧
    (flying .B 0x01 5 .build 1).sb = 1 ∧
    (flying .A 0x02 6 .build 0).op = 0x02 ∧
    ((flying .B 0x02 6 .build 0).op = 0x02 ∧ (flying .B 0x02 6 .build 0).sb = 0) ∧
    ((flying .B 0x02 6 .build 1).op = 0x02 ∧ (flying .B 0x02 6 .build 1).sb = 1) := by decide

theorem witness_DeviceIdIsIgnoredInVariantB :
    (flying .B 0x01 5 .build 0).cfg.variant = .B ∧ (flying .B 0x01 5 .build 0).seq = .build := by decide

theorem witness_SendPhaseSendsOnce :
    (flying .B 0x01 5 .send 1).seq = .send ∧ (flying .B 0x01 5 .send 1).busy = true ∧
    ({ flying .B 0x01 5 .send 1 with sendAns := [.ok] } : State).sendAns = [.ok] ∧
    ({ flying .B 0x01 5 .send 0 with sendAns := [.failure] } : State).sendAns = [.failure] := by decide

/-- A transaction in WAIT with one scripted answer. -/
def waiting (op : Byte) (n : BitVec 4) (sb : BitVec 1) (m : WaitMode) (l : RetryLimit) (a : RecvAnswer) : State :=
  { flying .B op n .wait sb with
    cfg := { Config.default with variant := .B, waitMode := m, retryLimit := l }
    recvAns := [a] }

theorem witness_WaitPhaseFollowsTheAnswer :
    ((waiting 0x02 6 0 .deadline .unbounded (.bytes [1])).seq = .wait ∧
      (waiting 0x02 6 0 .deadline .unbounded (.bytes [1])).busy = true ∧
      (waiting 0x02 6 0 .deadline .unbounded (.bytes [1])).recvAns = [.bytes [1]] ∧
      ([1] : List Byte).length ≤ (waiting 0x02 6 0 .deadline .unbounded (.bytes [1])).cfg.rxCap ∧
      (waiting 0x02 6 0 .deadline .unbounded (.bytes [1])).op = 0x02) ∧
    ((waiting 0x01 5 0 .deadline .unbounded (.bytes [1])).op = 0x01 ∧
      (waiting 0x01 5 0 .deadline .unbounded (.bytes [1])).sb = 0 ∧
      (waiting 0x01 5 0 .deadline .unbounded (.bytes [1])).nsb = 2) ∧
    ((waiting 0x01 5 1 .deadline .unbounded (.bytes [1])).sb = 1 ∧
      (waiting 0x01 5 1 .deadline .unbounded (.bytes [1])).nsb ≠ 3) ∧
    (waiting 0x01 4 0 .deadline .unbounded (.bytes [1])).nsb = 1 ∧
    (waiting 0x01 5 1 .deadline .unbounded .failure).recvAns = [.failure] ∧
    (waiting 0x01 5 1 .deadline .unbounded .timeout).cfg.waitMode = .deadline ∧
    ((waiting 0x01 5 1 .poll (.bounded 1) (.bytes [])).cfg.retryLimit = .bounded 1 ∧
      1 ≤ (waiting 0x01 5 1 .poll (.bounded 1) (.bytes [])).tries + 1) ∧
    ((waiting 0x01 5 1 .poll (.bounded 2) (.bytes [])).cfg.retryLimit = .bounded 2 ∧
      (waiting 0x01 5 1 .poll (.bounded 2) (.bytes [])).tries + 1 < 2) ∧
    (waiting 0x01 5 1 .poll .unbounded .timeout).cfg.retryLimit = .unbounded := by decide

/-- A read in DECODE with a received buffer. -/
def decoding (v : Variant) (n : BitVec 4) (sb : BitVec 1) (raw : List Byte) : State :=
  { flying v 0x02 n .decode sb with rxbuf := raw }

/-- The same on an instance with the given receive options. -/
def decodingWith (c : Config) (sb : BitVec 1) (raw : List Byte) : State :=
  { decoding c.variant 6 sb raw with cfg := c }

theorem witness_MalformedResponseEndsTheRead :
    ((decoding .A 6 0 (responseA.take 18)).seq = .decode ∧ (decoding .A 6 0 (responseA.take 18)).busy = true ∧
      (decoding .A 6 0 (responseA.take 18)).cfg.rxVerify = false ∧
      (decoding .A 6 0 (responseA.take 18)).cfg.variant = .A ∧
      (decoding .A 6 0 (responseA.take 18)).rxbuf.length = 18) ∧
    ((decodingWith { Config.default with rxVerify := true } 0 (responseA.take 19)).cfg.variant = .A ∧
      (responseA.take 19).length = 19) ∧
    ((decoding .B 6 1 [0x00]).cfg.variant = .B ∧ (0xAA : Byte) ∉ (decoding .B 6 1 [0x00]).rxbuf) ∧
    ((decodingWith (receiver false true) 1 (escapedB.take 14)).seq = .decode ∧ (0xAA : Byte) ∈ escapedB.take 14 ∧
      (bytesFromMarker (receiver false true) (escapedB.take 14)).length = 13) ∧
    ((0xAA : Byte) ∈ plainB.take 18 ∧ (bytesFromMarker (receiver true false) (plainB.take 18)).length = 18) := by decide

theorem witness_ChecksumMismatchEndsTheRead :
    ((decodingWith { Config.default with rxVerify := true } 0 (responseA.take 19 ++ [0x50])).seq = .decode ∧
      (decodingWith { Config.default with rxVerify := true } 0 (responseA.take 19 ++ [0x50])).busy = true ∧
      (responseA.take 19 ++ [0x50]).length = 20 ∧
      (responseA.take 19 ++ [0x50]).getD 19 0 ≠
        BitVec.ofNat 8 (((responseA.take 19).drop 2).map BitVec.toNat).sum) ∧
    ((decodingWith (receiver true true) 1 (escapedB.take 19 ++ [0])).cfg.rxVerify = true ∧
      (decodingWith (receiver true true) 1 (escapedB.take 19 ++ [0])).cfg.variant = .B ∧
      (0xAA : Byte) ∈ escapedB.take 19 ++ [0] ∧
      (bytesFromMarker (receiver true true) (escapedB.take 19 ++ [0])).length = 19 ∧
      (bytesFromMarker (receiver true true) (escapedB.take 19 ++ [0])).getD 18 0 ≠
        BitVec.ofNat 8 ((((bytesFromMarker (receiver true true) (escapedB.take 19 ++ [0])).take 18).drop 2).map
          BitVec.toNat).sum) ∧
    ((decoding .A 6 0 responseA).cfg.rxVerify = false ∧ (decoding .A 6 0 responseA).fault = 0) := by decide

theorem witness_DecodePhaseStagesAndCommits :
    ((decoding .A 6 0 responseA).seq = .decode ∧ (decoding .A 6 0 responseA).busy = true ∧
      (decoding .A 6 0 responseA).count.toNat ≤ 6 ∧ (decoding .A 6 0 responseA).nsb = 1 ∧
      exec (.decA (decoding .A 6 0 responseA).rxbuf) (decoding .A 6 0 responseA) =
        .next { decoding .A 6 0 responseA with acc := 0, res := .six ⟨100, 200, 300, 400, 500, 600⟩ }) ∧
    (exec (.decB (decoding .B 4 0 plainB).rxbuf) (decoding .B 4 0 plainB) =
        .next { decoding .B 4 0 plainB with start := 0, escp := false, acc := 0, res := .four ⟨100, 200, 300, 400⟩ } ∧
      (decoding .B 4 0 plainB).nsb = 1) ∧
    ((decoding .B 5 0 plainB).nsb = 2 ∧ (decoding .B 5 0 plainB).sb = 0) ∧
    ((decoding .B 5 1 plainB).nsb = 2 ∧ (decoding .B 5 1 plainB).sb = 1) :=
  ⟨⟨rfl, rfl, by decide, by decide, rfl⟩, ⟨rfl, by decide⟩, by decide, by decide⟩

theorem witness_ResultsAreWrittenOnlyByCommit :
    ((decoding .A 6 0 []).err = false ∧ (decoding .A 6 0 []).advance.err = true) ∧
    (exec (.stuff []) State.reset = .next { State.reset with res := .bytes [] } ∧ Instr.stuff [] ≠ .reset) ∧
    ((decoding .A 6 0 responseA).advance.rvalid = true ∧ resetPresented (decoding .A 6 0 responseA) = false ∧
      ∃ t, step (decoding .A 6 0 responseA) = .next t) :=
  ⟨by decide, ⟨rfl, by decide⟩, by decide, by decide, _, rfl⟩

theorem witness_VariantAWriteCompletes :
    (scripted .A [.command writeFive] [.ok] [.bytes [6]]).cfg.variant = .A ∧
    (scripted .A [.command writeFive] [.ok] [.bytes [6]]).busy = false ∧
    (scripted .A [.command writeFive] [.ok] [.bytes [6]]).inputs = [.command writeFive] ∧
    writeFive.op = 0x01 ∧ 1 ≤ writeFive.count.toNat ∧ writeFive.count.toNat ≤ 6 ∧
    (fresh .A).cfg.regmap.find? (fun e => e.name == writeFive.name) = some ⟨2, 1522, .magnitude⟩ ∧
    (scripted .A [.command writeFive] [.ok] [.bytes [6]]).sendAns = [.ok] ∧
    (scripted .A [.command writeFive] [.ok] [.bytes [6]]).recvAns = [.bytes [6]] ∧
    ([6] : List Byte).length ≤ (fresh .A).cfg.rxCap := by decide

theorem witness_VariantBSplitWriteCompletes :
    (scripted .B [.command writeFive] [.ok, .ok] [.bytes [6], .bytes [7]]).cfg.variant = .B ∧
    (scripted .B [.command writeFive] [.ok, .ok] [.bytes [6], .bytes [7]]).busy = false ∧
    writeFive.op = 0x01 ∧ 5 ≤ writeFive.count.toNat ∧ writeFive.count.toNat ≤ 6 ∧
    (fresh .B).cfg.regmap.find? (fun e => e.name == writeFive.name) = some ⟨2, 1522, .magnitude⟩ ∧
    (scripted .B [.command writeFive] [.ok, .ok] [.bytes [6], .bytes [7]]).sendAns = [.ok, .ok] ∧
    (scripted .B [.command writeFive] [.ok, .ok] [.bytes [6], .bytes [7]]).recvAns = [.bytes [6], .bytes [7]] ∧
    ([6] : List Byte).length ≤ (fresh .B).cfg.rxCap := by decide

theorem witness_SecondExchangeTimeoutReportsHalfDoneWrite :
    (scripted .B [.command writeFive] [.ok, .ok] [.bytes [6], .timeout]).cfg.variant = .B ∧
    (scripted .B [.command writeFive] [.ok, .ok] [.bytes [6], .timeout]).cfg.waitMode = .deadline ∧
    (scripted .B [.command writeFive] [.ok, .ok] [.bytes [6], .timeout]).busy = false ∧
    (scripted .B [.command writeFive] [.ok, .ok] [.bytes [6], .timeout]).inputs = [.command writeFive] ∧
    (scripted .B [.command writeFive] [.ok, .ok] [.bytes [6], .timeout]).sendAns = [.ok, .ok] ∧
    (scripted .B [.command writeFive] [.ok, .ok] [.bytes [6], .timeout]).recvAns = [.bytes [6], .timeout] ∧
    (fresh .B).cfg.regmap.find? (fun e => e.name == writeFive.name) = some ⟨2, 1522, .magnitude⟩ ∧
    ([6] : List Byte).length ≤ (fresh .B).cfg.rxCap ∧
    writeFive.op = 0x01 ∧ 5 ≤ writeFive.count.toNat ∧ writeFive.count.toNat ≤ 6 := by decide

theorem witness_VariantAReadDeliversTheFields :
    (scripted .A [.command readSix] [.ok] [.bytes (responseA.take 19)]).cfg.rxVerify = false ∧
    (scripted .A [.command readSix] [.ok] [.bytes (responseA.take 19)]).inputs = [.command readSix] ∧
    (scripted .A [.command readSix] [.ok] [.bytes (responseA.take 19)]).busy = false ∧
    readSix.op = 0x02 ∧ 1 ≤ readSix.count.toNat ∧ readSix.count.toNat ≤ 6 ∧
    (fresh .A).cfg.regmap.find? (fun e => e.name == readSix.name) = some ⟨2, 1522, .magnitude⟩ ∧
    19 ≤ (responseA.take 19).length ∧ (responseA.take 19).length ≤ (fresh .A).cfg.rxCap ∧
    (verifying.cfg.rxVerify = true ∧ verifying.cfg.variant = .A ∧ 20 ≤ responseA.length ∧
      responseA.getD 19 0 = BitVec.ofNat 8 (((responseA.take 19).drop 2).map BitVec.toNat).sum) := by decide

theorem witness_VariantBSplitReadRecombines :
    (State.resetWith { Config.default with variant := .B, rxUnstuff := true }).cfg.rxUnstuff = true ∧
    readSix.op = 0x02 ∧ 5 ≤ readSix.count.toNat ∧ readSix.count.toNat ≤ 6 ∧
    (fresh .B).cfg.regmap.find? (fun e => e.name == readSix.name) = some ⟨2, 1522, .magnitude⟩ ∧
    (0xAA : Byte) ∉ ([0x00, 0x13, 0x37] : List Byte) ∧
    (peerResponseB [0x00, 0x13, 0x37] 1522 100 200 300 170).length ≤ (fresh .B).cfg.rxCap ∧
    (peerResponseB [] 1530 500 600 0 0).length ≤ (fresh .B).cfg.rxCap ∧
    ((fresh .B).cfg.rxUnstuff = false ∧
      (plainResponseB [0x00, 0x13, 0x37] 1522 100 200 300 170).length ≤ (fresh .B).cfg.rxCap) := by decide

theorem witness_BoundedPollTimesOutAfterTheLimit :
    (waiting 0x01 1 0 .poll (.bounded 1) .timeout).busy = true ∧
    (waiting 0x01 1 0 .poll (.bounded 1) .timeout).seq = .wait ∧
    (waiting 0x01 1 0 .poll (.bounded 1) .timeout).tries = 0 ∧
    (waiting 0x01 1 0 .poll (.bounded 1) .timeout).inputs = [] ∧
    (waiting 0x01 1 0 .poll (.bounded 1) .timeout).cfg.waitMode = .poll ∧
    (waiting 0x01 1 0 .poll (.bounded 1) .timeout).cfg.retryLimit = .bounded 1 ∧
    (waiting 0x01 1 0 .poll (.bounded 1) .timeout).recvAns = [.timeout] ++ [] := by decide

theorem witness_UnboundedPollEndsOnlyByReset :
    (waiting 0x01 1 0 .poll .unbounded (.bytes [])).busy = true ∧
    (waiting 0x01 1 0 .poll .unbounded (.bytes [])).seq = .wait ∧
    (waiting 0x01 1 0 .poll .unbounded (.bytes [])).inputs = [] ∧
    (waiting 0x01 1 0 .poll .unbounded (.bytes [])).cfg.retryLimit = .unbounded ∧
    (waiting 0x01 1 0 .poll .unbounded (.bytes [])).recvAns = [.bytes []] ++ [] ∧
    (resetPresented { waiting 0x01 1 0 .poll .unbounded .timeout with inputs := [.hostRead 10] } = false ∧
      ∃ t, step { waiting 0x01 1 0 .poll .unbounded .timeout with inputs := [.hostRead 10] } = .next t) :=
  ⟨by decide, by decide, by decide, by decide, by decide, by decide, _, rfl⟩

/-- A busy state meets the invariant, and steps. -/
theorem witness_StepKeepsTheInvariant :
    (flying .B 0x02 6 .build 0).Inv ∧ ∃ t, step (flying .B 0x02 6 .build 0) = .next t := by
  refine ⟨?_, _, rfl⟩
  constructor <;> decide

theorem witness_StepKeepsTheConfiguration : ∃ t, step (scripted .A [.command readSix] [] []) = .next t := ⟨_, rfl⟩

theorem witness_OperandRegistersHoldDuringATransaction :
    (isHostCommand (.stuff []) = false ∧ ∃ t, exec (.stuff []) State.reset = .next t) ∧
    ((flying .A 0x01 1 .build 0).busy = true ∧ resetPresented (flying .A 0x01 1 .build 0) = false ∧
      ∃ t, step (flying .A 0x01 1 .build 0) = .next t) ∧
    (resetPresented { flying .A 0x01 1 .wait 0 with inputs := [.hostWrite 0 15] } = true ∧
      ∃ t, step { flying .A 0x01 1 .wait 0 with inputs := [.hostWrite 0 15] } = .next t) ∧
    (resetPresented (scripted .A [.issue (encode .reset)] [] []) = true ∧
      ∃ t, step (scripted .A [.issue (encode .reset)] [] []) = .next t) :=
  ⟨⟨rfl, _, rfl⟩, ⟨rfl, by decide, _, rfl⟩, ⟨by decide, _, rfl⟩, by decide, _, rfl⟩

theorem witness_FramesAreSentOnlyFromTheSendPhase :
    ∃ t, step { flying .A 0x01 1 .send 0 with sendAns := [.ok] } = .next t := ⟨_, rfl⟩

theorem witness_OutputsAreOnlyAppended : ∃ t, step (scripted .A [.hostRead 10] [] []) = .next t := ⟨_, rfl⟩

theorem witness_PhaseTellsWhetherAFrameWasSent :
    (after (step (scripted .B [.command readSix] [] []))).map State.busy = some true ∧
    ((flying .B 0x01 5 .build 0).busy = true ∧
      (after (step (flying .B 0x01 5 .build 0))).map State.busy = some true) ∧
    ((flying .B 0x01 5 .build 0).inputs = [] ∧ (flying .B 0x01 5 .build 0).seq = .build ∧
      (flying .B 0x01 5 .build 0).sb = 0 ∧ runsTo 0 (flying .B 0x01 5 .build 0) (flying .B 0x01 5 .build 0)) :=
  ⟨by decide, by decide, rfl, rfl, rfl, rfl⟩

/-- A state with one result. -/
def holding : State := { fresh .A with rvalid := true, rcount := 1 }

theorem witness_HostReadsTheListedRegisters :
    ({ holding with inputs := [.hostRead 13] } : State).inputs = [.hostRead 13] ∧ holding.rvalid = true ∧
    0 < holding.rcount.toNat ∧ holding.rcount.toNat ≤ 1 ∧ (fresh .A).rvalid = false := by decide

theorem witness_HostWritesTheOperandRegisters :
    (scripted .A [.hostWrite 9 5] [] []).inputs = [.hostWrite 9 5] ∧ (fresh .A).busy = false ∧
    (flying .A 0x01 1 .wait 0).busy = true := by decide

/-- The host's indices at their boundaries: H9 writes WV[5], H10 cannot be written, H18 without a value and H19 stop
(10_state.md R34). -/
theorem test_host_indices :
    ((after (step (scripted .A [.hostWrite 9 5] [] []))).map fun t => t.wv.v5) = some 5 ∧
    after (step (scripted .A [.hostWrite 10 5] [] [])) = none ∧
    after (step (scripted .A [.hostRead 18] [] [])) = none ∧
    after (step (scripted .A [.hostRead 19] [] [])) = none := by decide

end Sys2Proof.Machine.Tests
end

section
/-! PROOFS. The statements of 10_state.md: what a reset leaves, the host's register indices, what the sequencer and the
internal operations leave alone, and the invariant of the registers. -/

namespace Sys2Proof.Machine

/-! ### The step on a presented input -/

theorem step_of_input {s : State} {i : Input} {rest : List Input} (h : s.inputs = i :: rest) :
    step s = take i { s with inputs := rest } := by
  rw [step, h]

/-! ### Reset -/

/-- Settles O35: each reset leaves `State.resetWith` of the parameters, RV, the world outside and the trace apart. -/
theorem resetLeavesTheListedValues : Obligations.ResetLeavesTheListedValues := by
  unfold Obligations.ResetLeavesTheListedValues
  intro listed
  have hreset : ∀ c, listed (State.resetWith c) c := fun c => by
    simp [listed, State.resetWith, Six.all, State.txlen, State.rxlen]
  have hregisters : ∀ s : State, listed s.resetRegisters s.cfg := fun s => hreset s.cfg
  refine ⟨fun s => ⟨s.resetRegisters, rfl, hregisters s, rfl⟩, fun s rest hi => ?_, hreset, fun c e rest hm => ?_⟩
  · exact ⟨_, step_of_input hi, hregisters { s with inputs := rest }⟩
  · rw [Config.firstName, hm]

/-! ### The host's register indices -/

/-- The status view as a sum of its bits' weights (10_state.md R34). -/
theorem State.statusView_eq (s : State) :
    (s.statusView : Int) = (if s.busy then 1 else 0) + (if s.done then 2 else 0) + (if s.err then 4 else 0) := by
  unfold State.statusView bit
  split <;> split <;> split <;> rfl

/-- The count view as a sum of its fields' weights (10_state.md R34). -/
theorem State.countView_eq (s : State) : (s.countView : Int) = s.rcount.toNat + (if s.rvalid then 8 else 0) := by
  unfold State.countView bit
  split <;> rfl

theorem State.readRv_of_valid {s : State} {i : Nat} (hv : s.rvalid = true) (hi : i < s.rcount.toNat) :
    s.readRv i = some (s.rv.get i).toInt := by
  simp [State.readRv, hv, hi]

theorem State.readRv_of_no_value {s : State} {i : Nat} (h : s.rvalid = false ∨ s.rcount.toNat ≤ i) :
    s.readRv i = none := by
  rcases h with h | h
  · simp [State.readRv, h]
  · simp [State.readRv, Nat.not_lt.mpr h]

/-- The indices of the results: H13 reads RV[0], H18 reads RV[5] (10_state.md R34). -/
theorem hostRead_result (s : State) {i : Nat} (hi : i < 6) :
    hostRead (13 + i) s =
      (s.readRv i).elim (.fault (.readNoValue i)) (fun v => .next (s.emit (.readData (13 + i) v))) := by
  have h9 : ¬13 + i ≤ 9 := by omega
  have h10 : 13 + i ≠ 10 := by omega
  have h11 : 13 + i ≠ 11 := by omega
  have h12 : 13 + i ≠ 12 := by omega
  have h18 : 13 + i ≤ 18 := by omega
  simp only [hostRead, h9, h10, h11, h12, h18, if_false, if_true, Nat.add_sub_cancel_left]
  cases s.readRv i <;> rfl

theorem hostRead_of_value (s : State) {i : Nat} (hi : i < 6) (hv : s.rvalid = true) (hc : i < s.rcount.toNat) :
    hostRead (13 + i) s = .next (s.emit (.readData (13 + i) (s.rv.get i).toInt)) := by
  rw [hostRead_result s hi, State.readRv_of_valid hv hc]; rfl

theorem hostRead_of_no_value (s : State) {i : Nat} (hi : i < 6) (h : s.rvalid = false ∨ s.rcount.toNat ≤ i) :
    hostRead (13 + i) s = .fault (.readNoValue i) := by
  rw [hostRead_result s hi, State.readRv_of_no_value h]; rfl

theorem hostRead_of_writeOnly (s : State) {h : Nat} (hh : h ≤ 9) : hostRead h s = .fault (.readOfWriteOnly h) := by
  simp [hostRead, hh]

theorem hostRead_of_unassigned (s : State) {h : Nat} (hh : 18 < h) : hostRead h s = .fault (.noSuchIndex h) := by
  have h9 : ¬h ≤ 9 := by omega
  have h10 : h ≠ 10 := by omega
  have h11 : h ≠ 11 := by omega
  have h12 : h ≠ 12 := by omega
  have h18 : ¬h ≤ 18 := by omega
  simp only [hostRead, h9, h10, h11, h12, h18, if_false]

/-- Settles O58: one case for each range of indices, each by the lemma about `hostRead` on that range. -/
theorem hostReadsTheListedRegisters : Obligations.HostReadsTheListedRegisters := by
  intro s h rest hin reads
  have hstep : step s = hostRead h { s with inputs := rest } := step_of_input hin
  refine ⟨?status, ?fault, ?count, ?result, ?noValue, ?writeOnly, ?unassigned⟩
  case status =>
    rintro rfl
    simp only [reads, ← State.statusView_eq]
    exact hstep
  case fault => rintro rfl; exact hstep
  case count =>
    rintro rfl
    simp only [reads, ← State.countView_eq]
    exact hstep
  case result =>
    rintro i rfl hi hv hc
    exact hstep.trans (hostRead_of_value _ hi hv hc)
  case noValue =>
    rintro i rfl hi hno
    exact hstep.trans (hostRead_of_no_value _ hi hno)
  case writeOnly => exact fun hh => hstep.trans (hostRead_of_writeOnly _ hh)
  case unassigned => exact fun hh => hstep.trans (hostRead_of_unassigned _ hh)

/-- A write of H1 to H9 is ignored while BUSY and loads an operand register else (10_state.md R34). -/
theorem hostWrite_operand (s : State) {h : Nat} (v : Nat) (h1 : 1 ≤ h) (h9 : h ≤ 9) :
    hostWrite h v s = .next (if s.busy then s else s.writeOperand h v) := by
  have h0 : h ≠ 0 := by omega
  simp only [hostWrite, h0, h9, if_false, if_true]
  split <;> rfl

theorem hostWrite_of_readOnly (s : State) {h : Nat} (v : Nat) (h10 : 10 ≤ h) (h18 : h ≤ 18) :
    hostWrite h v s = .fault (.writeOfReadOnly h) := by
  have h0 : h ≠ 0 := by omega
  have h9 : ¬h ≤ 9 := by omega
  simp only [hostWrite, h0, h9, h18, if_false, if_true]

theorem hostWrite_of_unassigned (s : State) {h : Nat} (v : Nat) (hh : 18 < h) :
    hostWrite h v s = .fault (.noSuchIndex h) := by
  have h0 : h ≠ 0 := by omega
  have h9 : ¬h ≤ 9 := by omega
  have h18 : ¬h ≤ 18 := by omega
  simp only [hostWrite, h0, h9, h18, if_false]

/-- H4 to H9 are WV[0] to WV[5] (10_state.md R34). -/
theorem State.writeOperand_value (s : State) (k v : Nat) :
    s.writeOperand (4 + k) v = { s with wv := s.wv.set k (BitVec.ofNat 16 v) } := by
  rw [Nat.add_comm]; rfl

/-- Settles O59: one case for each range of indices, each by the lemma about `hostWrite` on that range. -/
theorem hostWritesTheOperandRegisters : Obligations.HostWritesTheOperandRegisters := by
  intro s h v rest hin u
  have hstep : step s = hostWrite h v u := step_of_input hin
  have hidle : s.busy = false → 1 ≤ h → h ≤ 9 → step s = .next (u.writeOperand h v) := fun hb h1 h9 => by
    have hu : u.busy = false := hb
    rw [hstep, hostWrite_operand u v h1 h9, hu, if_neg Bool.false_ne_true]
  refine ⟨?command, ?busy, ?name, ?device, ?count, ?value, ?readOnly, ?unassigned⟩
  case command => rintro rfl; exact hstep
  case busy =>
    intro h1 h9 hb
    have hu : u.busy = true := hb
    rw [hstep, hostWrite_operand u v h1 h9, hu, if_pos rfl]
  case name => rintro rfl hb; exact hidle hb (by decide) (by decide)
  case device => rintro rfl hb; exact hidle hb (by decide) (by decide)
  case count => rintro rfl hb; exact hidle hb (by decide) (by decide)
  case value =>
    rintro k rfl hk hb
    rw [hidle hb (by omega) (by omega), State.writeOperand_value]
  case readOnly => exact fun h10 h18 => hstep.trans (hostWrite_of_readOnly u v h10 h18)
  case unassigned => exact fun hh => hstep.trans (hostWrite_of_unassigned u v hh)

/-! ### The datapath: the registers an internal operation may write -/

/-- `s` with the registers of `t` that the internal operations write and that carry no promise but a capacity. -/
def State.withDatapathOf (t s : State) : State :=
  { s with
    tries := t.tries
    addr := t.addr
    cls := t.cls
    txbuf := t.txbuf
    rxbuf := t.rxbuf
    acc := t.acc
    escp := t.escp
    start := t.start
    stg := t.stg
    inputs := t.inputs
    sendAns := t.sendAns
    recvAns := t.recvAns
    draws := t.draws
    outs := t.outs
    res := t.res }

/-- `t` differs from `s` in the datapath alone, and its buffers stay within their capacities (10_state.md R27). -/
structure DatapathOnly (s t : State) : Prop where
  rest : t = t.withDatapathOf s
  tx : s.txbuf.length ≤ 38 → t.txbuf.length ≤ 38
  rx : s.rxbuf.length ≤ s.cfg.rxCap → t.rxbuf.length ≤ s.cfg.rxCap

theorem DatapathOnly.refl (s : State) : DatapathOnly s s := ⟨rfl, id, id⟩

theorem DatapathOnly.cfg {s t : State} (d : DatapathOnly s t) : t.cfg = s.cfg := (congrArg State.cfg d.rest :)

theorem DatapathOnly.trans {s t u : State} (d : DatapathOnly s t) (e : DatapathOnly t u) : DatapathOnly s u where
  rest := by
    calc u = u.withDatapathOf t := e.rest
      _ = u.withDatapathOf (t.withDatapathOf s) := by rw [← d.rest]
      _ = u.withDatapathOf s := rfl
  tx := e.tx ∘ d.tx
  rx := by have := e.rx; rw [d.cfg] at this; exact this ∘ d.rx

theorem DatapathOnly.emit (s : State) (o : Output) : DatapathOnly s (s.emit o) := ⟨rfl, id, id⟩

theorem DatapathOnly.inputs (s : State) (l : List Input) : DatapathOnly s { s with inputs := l } := ⟨rfl, id, id⟩

theorem DatapathOnly.afterSendAnswer (s : State) : DatapathOnly s s.afterSendAnswer := by
  unfold State.afterSendAnswer
  split <;> exact ⟨rfl, id, id⟩

theorem DatapathOnly.afterReceive (s : State) (max : Nat) : DatapathOnly s (s.afterReceive max) where
  rest := by
    unfold State.afterReceive State.afterRecvAnswer
    split <;> rfl
  tx := by simp
  rx _ := by simpa using State.recvAnswer_fits max s

/-! ### What the internal operations leave alone -/

/-- An operation that ends, with a value or a fault, having written the datapath alone. -/
def Ran.KeepsControl {α : Type} (s : State) : Ran α → Prop
  | .done _ t => DatapathOnly s t
  | .raised _ t => DatapathOnly s t

/-- What an operation issued directly leaves: the datapath written, and then perhaps a fault raised. -/
def DatapathThenFault (s t : State) : Prop := DatapathOnly s t ∨ ∃ u c, DatapathOnly s u ∧ t = u.raise c

theorem Ran.KeepsControl.settle {α : Type} {s : State} {r : Ran α} (h : r.KeepsControl s) (f : α → OpResult) :
    DatapathThenFault s (r.settle f) := by
  cases r with
  | done v t => exact .inl (h.trans ⟨rfl, id, id⟩)
  | raised c t => exact .inr ⟨t, c, h, rfl⟩

theorem State.lookup_keepsControl (name : Byte) (s : State) : (s.lookup name).KeepsControl s := by
  rcases State.lookup_cases name s with ⟨e, -, h⟩ | ⟨-, h⟩ <;> rw [h] <;> exact ⟨rfl, id, id⟩

theorem frameA_length (body : List Byte) : (frameA body).length = body.length + 3 := by
  simp [frameA]

/-- A Variant B frame takes two delimiters and at most two bytes for each of the seventeen between them. -/
theorem wireB_length_le (u : List Byte) : (wireB u).length ≤ 38 := by
  have hslice : (slice u 2 19).length ≤ 17 := by simp only [slice, List.length_drop, List.length_take]; omega
  have hstuff := stuff_length_le (slice u 2 19)
  simp only [wireB, List.length_append, List.length_cons, List.length_nil]
  omega

theorem State.encAWr_keepsControl (dev : Byte) (addr : Half) (vals : List Half) (s : State) :
    (s.encAWr dev addr vals).KeepsControl s := by
  rw [State.encAWr_eq]
  split
  · exact DatapathOnly.refl s
  · refine ⟨rfl, fun _ => ?_, id⟩
    simp only [frameA_length, bodyAWr, List.length_append, List.length_cons, List.length_nil, le16s_length]
    omega

theorem State.encARd_keepsControl (dev : Byte) (addr : Half) (s : State) : (s.encARd dev addr).KeepsControl s := by
  rw [State.encARd_eq]
  exact ⟨rfl, fun _ => by simp [frameA_length, bodyARd], id⟩

theorem State.buildB_keepsControl (w : Bool) (addr : Half) (window : List Byte) (d : Byte) (s : State) :
    (s.buildB w addr window d).KeepsControl s := by
  rw [State.buildB_eq]
  exact ⟨rfl, fun _ => wireB_length_le _, id⟩

theorem State.encBWr_keepsControl (addr : Half) (vals : List Half) (s : State) :
    (s.encBWr addr vals).KeepsControl s := by
  unfold State.encBWr
  split
  · exact DatapathOnly.refl s
  · exact State.buildB_keepsControl ..

theorem State.encBRd_keepsControl (addr : Half) (c : Byte) (s : State) : (s.encBRd addr c).KeepsControl s :=
  State.buildB_keepsControl ..

theorem State.decA_keepsControl (raw : List Byte) (s : State) : (s.decA raw).KeepsControl s := by
  obtain ⟨a, ⟨f, h⟩ | ⟨c, h⟩⟩ := State.decA_frame raw s <;> rw [h] <;> exact ⟨rfl, id, id⟩

theorem State.decB_keepsControl (raw : List Byte) (s : State) : (s.decB raw).KeepsControl s := by
  obtain ⟨st, e, a, ⟨f, h⟩ | ⟨c, h⟩⟩ := State.decB_frame raw s <;> rw [h] <;> exact ⟨rfl, id, id⟩

theorem State.sendFrame_keepsControl (b : List Byte) (s : State) : (s.sendFrame b).KeepsControl s := by
  rcases State.sendFrame_cases b s with ⟨-, h⟩ | ⟨-, h⟩ <;> rw [h] <;>
    exact (DatapathOnly.afterSendAnswer s).trans (DatapathOnly.emit _ _)

/-- An internal operation writes the datapath and perhaps raises a fault; WAITRSP makes the first attempt of a wait. -/
theorem exec_internal_cases (i : Instr) (s t : State) (hi : isHostCommand i = false) (h : exec i s = .next t) :
    DatapathThenFault s t ∨ t = State.stepWait { s with tries := 0, seq := .wait } := by
  cases i with
  | wrreg | rdreg | reset => cases hi
  | waitrsp => injection h with h; exact .inr h.symm
  | lookup name => injection h with h; exact .inl (h ▸ (State.lookup_keepsControl name s).settle _)
  | cksum b =>
    injection h with h
    rw [← h, State.cksumRun_eq]
    exact .inl (.inl ⟨rfl, id, id⟩)
  | encAWr dev addr vals | frameAWr dev _ addr vals _ =>
    injection h with h; exact .inl (h ▸ (State.encAWr_keepsControl dev addr vals s).settle _)
  | encARd dev addr | frameARd dev _ addr _ _ =>
    injection h with h; exact .inl (h ▸ (State.encARd_keepsControl dev addr s).settle _)
  | encBWr | frameBWr => injection h with h; exact .inl (h ▸ (State.encBWr_keepsControl _ _ s).settle _)
  | encBRd | frameBRd => injection h with h; exact .inl (h ▸ (State.encBRd_keepsControl _ _ s).settle _)
  | stuff | unstuff | sanClamp | sanSigned =>
    injection h with h; exact .inl (.inl (h ▸ ⟨rfl, id, id⟩))
  | decA raw => injection h with h; exact .inl (h ▸ (State.decA_keepsControl raw s).settle _)
  | decB raw => injection h with h; exact .inl (h ▸ (State.decB_keepsControl raw s).settle _)
  | send b => injection h with h; exact .inl (h ▸ (State.sendFrame_keepsControl b s).settle _)
  | recv max time =>
    injection h with h
    exact .inl (.inl (h ▸ (DatapathOnly.afterReceive s max.toNat).trans ⟨rfl, id, id⟩))

/-! ### What a transaction is given: its operands and the parameters -/

/-- The command record the operand registers hold, and the parameters (10_state.md R21, R32). -/
def State.given (s : State) : Command × Config := (⟨s.op, s.name, s.devid, s.count, s.wv⟩, s.cfg)

theorem State.given_eq_iff (s t : State) :
    t.given = s.given ↔
      (t.op = s.op ∧ t.name = s.name ∧ t.devid = s.devid ∧ t.count = s.count ∧ t.wv = s.wv) ∧ t.cfg = s.cfg := by
  simp [State.given]

theorem DatapathOnly.given {s t : State} (d : DatapathOnly s t) : t.given = s.given := (congrArg State.given d.rest :)

@[simp] theorem State.refuseBusy_given (s : State) : s.refuseBusy.given = s.given := rfl

theorem DatapathThenFault.given {s t : State} (h : DatapathThenFault s t) : t.given = s.given := by
  rcases h with d | ⟨u, c, d, rfl⟩
  · exact d.given
  · exact d.given

theorem State.stepBuild_given (s : State) : s.stepBuild.given = s.given := by
  rcases State.stepBuild_cases s with ⟨f, a, h, -⟩ | h <;> rw [h] <;> rfl

theorem State.stepSend_given (s : State) : s.stepSend.given = s.given := by
  rcases State.stepSend_cases s with ⟨-, h⟩ | ⟨-, h⟩ <;> rw [h] <;> exact (DatapathOnly.afterSendAnswer s).given

theorem State.onResponse_given (s : State) : s.onResponse.given = s.given := by
  rcases State.onResponse_cases s with ⟨-, -, h⟩ | ⟨-, -, -, h⟩ | ⟨-, -, -, h⟩ | ⟨-, h⟩ <;> rw [h] <;> rfl

theorem State.stepWait_given (s : State) : s.stepWait.given = s.given := by
  have hreceive := (DatapathOnly.afterReceive s s.cfg.rxCap).given
  rcases State.stepWait_cases s with ⟨x, xs, -, h⟩ | ⟨-, h⟩ | ⟨-, ⟨-, h⟩ | ⟨-, -, h⟩ | ⟨-, -, h⟩⟩ <;> rw [h]
  · exact (State.onResponse_given _).trans hreceive
  all_goals exact hreceive

theorem State.onDecoded_given (s : State) : s.onDecoded.given = s.given := by
  rcases State.onDecoded_cases s with ⟨-, h⟩ | ⟨-, h⟩ <;> rw [h] <;> rfl

theorem State.stepDecode_given (s : State) : s.stepDecode.given = s.given := by
  obtain ⟨st, e, a, ⟨c, h⟩ | ⟨g, h⟩⟩ := State.stepDecode_cases s <;> rw [h]
  · rfl
  · exact State.onDecoded_given _

/-- No transition of the sequencer writes an operand register or a parameter. -/
theorem State.advance_given (s : State) : s.advance.given = s.given := by
  unfold State.advance
  split
  · rfl
  · exact s.stepBuild_given
  · exact s.stepSend_given
  · exact s.stepWait_given
  · exact s.stepDecode_given

/-- No internal operation writes an operand register or a parameter. -/
theorem exec_internal_given (i : Instr) (s t : State) (hi : isHostCommand i = false) (h : exec i s = .next t) :
    t.given = s.given := by
  rcases exec_internal_cases i s t hi h with hd | rfl
  · exact hd.given
  · exact State.stepWait_given _

theorem State.registerCommand_cfg (c : Command) (s : State) : (s.registerCommand c).cfg = s.cfg := by
  rcases State.registerCommand_cases c s with ⟨-, h⟩ | ⟨-, -, h⟩ | ⟨-, -, -, h⟩ | ⟨e, -, -, -, h⟩ <;> rw [h] <;> rfl

theorem State.illegalCommand_cfg (c : Command) (s : State) : (s.illegalCommand c).cfg = s.cfg := by
  rcases State.illegalCommand_cases c s with ⟨-, h⟩ | ⟨-, h⟩ <;> rw [h] <;> rfl

theorem State.writeOperand_cfg (h v : Nat) (s : State) : (s.writeOperand h v).cfg = s.cfg := by
  unfold State.writeOperand
  split <;> rfl

theorem State.registerCommand_of_busy {s : State} (c : Command) (hb : s.busy = true) :
    s.registerCommand c = s.refuseBusy := by
  rw [State.registerCommand, if_pos hb]

theorem State.illegalCommand_of_busy {s : State} (c : Command) (hb : s.busy = true) :
    s.illegalCommand c = s.refuseBusy := by
  rw [State.illegalCommand, if_pos hb]

/-- No input but a reset writes a parameter. -/
theorem StepEffect.cfg {u t : State} (h : StepEffect u t) : t.cfg = u.cfg := by
  rcases h with rfl | ⟨c, -, rfl⟩ | ⟨c, rfl⟩ | rfl | ⟨n, v, rfl⟩ | rfl | ⟨-, n, v, rfl⟩ | ⟨-, i, hi, h⟩
  · exact ((State.given_eq_iff _ _).mp u.advance_given).2
  · exact State.registerCommand_cfg c u
  · exact State.illegalCommand_cfg c u
  · rfl
  · rfl
  · rfl
  · exact State.writeOperand_cfg n v u
  · exact ((State.given_eq_iff _ _).mp (exec_internal_given i u t hi h)).2

/-- While BUSY no input but a reset writes an operand register: commands are refused, H1 to H9 ignored. -/
theorem StepEffect.given_of_busy {u t : State} (h : StepEffect u t) (hb : u.busy = true) : t.given = u.given := by
  have hidle : u.busy ≠ false := by simp [hb]
  rcases h with rfl | ⟨c, -, rfl⟩ | ⟨c, rfl⟩ | rfl | ⟨n, v, rfl⟩ | rfl | ⟨hb', -⟩ | ⟨hb', -⟩
  · exact u.advance_given
  · rw [State.registerCommand_of_busy c hb, State.refuseBusy_given]
  · rw [State.illegalCommand_of_busy c hb, State.refuseBusy_given]
  · rfl
  · rfl
  · rfl
  · exact absurd hb' hidle
  · exact absurd hb' hidle

/-- Settles O53: a reset keeps the parameters, and so does every other input. -/
theorem stepKeepsTheConfiguration : Obligations.StepKeepsTheConfiguration := by
  intro s t h
  cases hr : resetPresented s with
  | true => rw [step_reset s t h hr]; rfl
  | false => exact (step_effect s t h hr).cfg

/-- Settles O54: the sequencer and the internal operations leave `State.given` alone, and while BUSY nothing else
runs. -/
theorem operandRegistersHoldDuringATransaction : Obligations.OperandRegistersHoldDuringATransaction := by
  unfold Obligations.OperandRegistersHoldDuringATransaction
  intro same
  have hsame : ∀ s t : State, t.given = s.given → same s t := fun s t h => ((State.given_eq_iff s t).mp h).1
  refine ⟨fun s => hsame _ _ s.advance_given, fun i s t hi h => hsame _ _ (exec_internal_given i s t hi h),
    fun s t hb hr h => ?_, fun s t hr h => ?_⟩
  · exact hsame _ _ ((step_effect s t h hr).given_of_busy hb)
  · rw [step_reset s t h hr]
    exact ⟨rfl, rfl, rfl, rfl, rfl, rfl, rfl⟩

/-! ### The invariant: its part that holds whatever the status -/

/-- The clauses of the invariant that speak of no status and no phase: the capacities, the results and `nsb`
(10_state.md R23, R26, R27). -/
structure State.Standing (s : State) : Prop where
  txCapacity : s.txbuf.length ≤ 38
  rxCapacity : s.rxbuf.length ≤ s.cfg.rxCap
  rcountRange : s.rcount.toNat ≤ 6
  rcountClear : s.rvalid = false → s.rcount = 0
  rvRange : ∀ i, i < s.rcount.toNat → -32767 ≤ (s.rv.get i).toInt ∧ (s.rv.get i).toInt ≤ 32768
  nsbRange : s.nsb = 1 ∨ s.nsb = 2

theorem State.Inv.standing {s : State} (h : s.Inv) : s.Standing := { h with }

/-- With no transaction in flight and no wait, only the status must fit. -/
theorem State.Standing.inv_of_idle {s : State} (h : s.Standing) (hb : s.busy = false) (hq : s.seq = .idle)
    (errDone : s.err = true → s.done = true) (errFault : s.err = true ↔ s.fault ≠ 0) (faultCode : s.fault.toNat ≤ 7)
    (finfoClear : s.err = false → s.finfo = 0) : s.Inv :=
  { h with
    errDone, errFault, faultCode, finfoClear
    notBusyDone := by simp [hb]
    busyPhase := by simp [hb]
    phaseBusy := by simp [hq]
    decodeRead := by simp [hq]
    busyOp := by simp [hb]
    busyCount := by simp [hb]
    busyExchanges := by simp [hb]
    busySecond := by simp [hb]
    busyInvalid := by simp [hb] }

/-- The stored codes are 1 to 7 (60_exceptions.md R280). -/
theorem Cause.code_range (c : Cause) : c.code ≠ 0 ∧ c.code.toNat ≤ 7 := by
  cases c <;> decide

/-- Fault entry meets the invariant wherever it comes from. -/
theorem State.Standing.raise {s : State} (h : s.Standing) (c : Cause) : (s.raise c).Inv :=
  State.Standing.inv_of_idle { h with } rfl rfl (fun _ => rfl) ⟨fun _ => c.code_range.1, fun _ => rfl⟩
    c.code_range.2 (by simp)

theorem State.Standing.complete {s : State} (h : s.Standing) : s.complete.Inv :=
  State.Standing.inv_of_idle { h with } rfl rfl (fun _ => rfl) (by simp) (by simp) (fun _ => rfl)

/-- Acceptance clears the results, so nothing is asked of RV. -/
theorem State.Inv.accepted_standing {s : State} (h : s.Inv) (c : Command) : (accepted c s).Standing :=
  { h with
    rcountRange := Nat.zero_le 6
    rcountClear := fun _ => rfl
    rvRange := fun _ hi => absurd hi (Nat.not_lt_zero _) }

/-! ### The invariant: reset -/

theorem State.resetWith_inv_of_rv (c : Config) (rv : Six (BitVec 17)) :
    ({ State.resetWith c with rv := rv } : State).Inv :=
  State.Standing.inv_of_idle
    { txCapacity := Nat.zero_le 38
      rxCapacity := Nat.zero_le c.rxCap
      rcountRange := Nat.zero_le 6
      rcountClear := fun _ => rfl
      rvRange := fun _ hi => absurd hi (Nat.not_lt_zero _)
      nsbRange := .inl rfl }
    rfl rfl (by simp [State.resetWith]) (by simp [State.resetWith]) (Nat.zero_le 7) (fun _ => rfl)

theorem State.resetWith_inv (c : Config) : (State.resetWith c).Inv := State.resetWith_inv_of_rv c (Six.all 0)

/-- Settles O51: with no result counted and no transaction in flight only the idle status is left to check. -/
theorem invariantHoldsAfterReset : Obligations.InvariantHoldsAfterReset :=
  ⟨State.resetWith_inv Config.default, State.resetWith_inv⟩

/-! ### The invariant: the datapath, the phase, the exchanges -/

theorem State.Inv.datapath {s t : State} (h : s.Inv) (d : DatapathOnly s t) : t.Inv := by
  rw [d.rest]
  exact { h with txCapacity := d.tx h.txCapacity, rxCapacity := d.rx h.rxCapacity }

theorem State.resetRegisters_inv (s : State) : s.resetRegisters.Inv :=
  (State.resetWith_inv_of_rv s.cfg (Config.freeRv s.draws)).datapath ⟨rfl, id, id⟩

theorem State.Inv.datapathThenFault {s t : State} (h : s.Inv) (d : DatapathThenFault s t) : t.Inv := by
  rcases d with d | ⟨u, c, d, rfl⟩
  · exact h.datapath d
  · exact (h.datapath d).standing.raise c

/-- The phase may move wherever it fits the transaction, or its absence. -/
theorem State.Inv.setPhase {s : State} (h : s.Inv) (q : Phase) (busyPhase : s.busy = true → q ≠ .idle)
    (phaseBusy : q = .build ∨ q = .send ∨ q = .decode → s.busy = true) (decodeRead : q = .decode → s.op = opRdreg) :
    ({ s with seq := q } : State).Inv :=
  { h with busyPhase, phaseBusy, decodeRead }

theorem State.Inv.nextExchange {s : State} (h : s.Inv) (hb : s.busy = true) (hm : s.sb.toNat + 1 < s.nsb.toNat) :
    s.nextExchange.Inv := by
  have htwo : s.nsb = 2 := by
    rcases h.nsbRange with h1 | h2
    · rw [h1] at hm; simp at hm
    · exact h2
  have hbuild := h.setPhase .build (by simp) (fun _ => hb) (by simp)
  exact { hbuild with busySecond := fun _ _ => htwo }

/-! ### The invariant: the commit of a read -/

/-- Either sanitiser answers in the range of the results (43_frame_decode.md R184 to R186). -/
theorem sanitize_range (cls : RegClass) (u : Half) : -32767 ≤ sanitize cls u ∧ sanitize cls u ≤ 32768 := by
  have hu := u.isLt
  cases cls with
  | magnitude => simp only [sanitize, sanClamp]; split <;> omega
  | signed => simp only [sanitize, sanSigned]; split <;> omega

/-- Seventeen bits hold every sanitised value (10_state.md R23). -/
theorem toInt_ofInt_sanitize (cls : RegClass) (u : Half) :
    (BitVec.ofInt 17 (sanitize cls u)).toInt = sanitize cls u := by
  have h := sanitize_range cls u
  rw [BitVec.toInt_ofInt, Int.bmod_eq_of_le] <;> omega

theorem sanitizeRv_get (cls : RegClass) (n : Nat) (stg : Six Half) (rv : Six (BitVec 17)) {i : Nat} (hi : i < n)
    (h6 : n ≤ 6) : (sanitizeRv cls n stg rv).get i = BitVec.ofInt 17 (sanitize cls (stg.get i)) := by
  have hcases : i = 0 ∨ i = 1 ∨ i = 2 ∨ i = 3 ∨ i = 4 ∨ i = 5 := by omega
  rcases hcases with rfl | rfl | rfl | rfl | rfl | rfl <;> exact if_pos hi

theorem State.Standing.commit {s : State} (h : s.Standing) (hc : s.count.toNat ≤ 6) : s.commit.Standing := by
  have hcount : s.commit.rcount.toNat = s.count.toNat := by
    rw [State.commit_rcount, BitVec.toNat_ofNat]; omega
  refine { h with rcountRange := hcount ▸ hc, rcountClear := nofun, rvRange := fun i hi => ?_ }
  rw [State.commit_rv, sanitizeRv_get _ _ _ _ (hcount ▸ hi) hc, toInt_ofInt_sanitize]
  exact sanitize_range _ _

/-! ### The invariant: the sequencer -/

theorem State.Inv.stepBuild {s : State} (h : s.Inv) (hq : s.seq = .build) : s.stepBuild.Inv := by
  have hb : s.busy = true := h.phaseBusy (.inl hq)
  rcases State.stepBuild_cases s with ⟨f, a, e, hf⟩ | e <;> rw [e]
  · exact (h.setPhase .send (by simp) (fun _ => hb) (by simp)).datapath ⟨rfl, fun _ => hf, id⟩
  · exact h.standing.raise _

theorem State.Inv.stepSend {s : State} (h : s.Inv) : s.stepSend.Inv := by
  have hsent : ∀ o, (s.afterSendAnswer.emit o).Inv := fun o =>
    h.datapath ((DatapathOnly.afterSendAnswer s).trans (DatapathOnly.emit _ o))
  rcases State.stepSend_cases s with ⟨-, e⟩ | ⟨-, e⟩ <;> rw [e]
  · exact ((hsent _).setPhase .wait (by simp) (by simp) (by simp)).datapath ⟨rfl, id, id⟩
  · exact (hsent _).standing.raise _

theorem State.Inv.onResponse {s : State} (h : s.Inv) : s.onResponse.Inv := by
  rcases State.onResponse_cases s with ⟨hb, ho, e⟩ | ⟨hb, -, hm, e⟩ | ⟨-, -, -, e⟩ | ⟨hb, e⟩ <;> rw [e]
  · exact h.setPhase .decode (by simp) (fun _ => hb) (fun _ => ho)
  · exact h.nextExchange hb hm
  · exact h.standing.complete
  · exact (h.setPhase .idle (by simp [hb]) (by simp) (by simp)).datapath ⟨rfl, id, id⟩

theorem State.Inv.stepWait {s : State} (h : s.Inv) : s.stepWait.Inv := by
  have hreceived := h.datapath (DatapathOnly.afterReceive s s.cfg.rxCap)
  have htried : ({ s.afterReceive s.cfg.rxCap with tries := s.tries + 1 } : State).Inv :=
    hreceived.datapath ⟨rfl, id, id⟩
  rcases State.stepWait_cases s with ⟨x, xs, -, e⟩ | ⟨-, e⟩ | ⟨-, ⟨-, e⟩ | ⟨-, -, e⟩ | ⟨-, -, e⟩⟩ <;> rw [e]
  · exact hreceived.onResponse
  · exact hreceived.standing.raise _
  · exact hreceived.standing.raise _
  · exact htried.standing.raise _
  · exact htried

theorem State.Inv.onDecoded {s : State} (h : s.Inv) (hb : s.busy = true) : s.onDecoded.Inv := by
  rcases State.onDecoded_cases s with ⟨hm, e⟩ | ⟨-, e⟩ <;> rw [e]
  · exact h.nextExchange hb hm
  · exact (h.standing.commit (h.busyCount hb).2).complete

theorem State.Inv.stepDecode {s : State} (h : s.Inv) (hq : s.seq = .decode) : s.stepDecode.Inv := by
  have hb : s.busy = true := h.phaseBusy (.inr (.inr hq))
  obtain ⟨st, e, a, ⟨c, hd⟩ | ⟨g, hd⟩⟩ := State.stepDecode_cases s <;> rw [hd]
  · have hread : ({ s with start := st, escp := e, acc := a } : State).Inv := h.datapath ⟨rfl, id, id⟩
    exact hread.standing.raise c
  · have hstaged : ({ s with start := st, escp := e, acc := a, stg := g } : State).Inv := h.datapath ⟨rfl, id, id⟩
    exact hstaged.onDecoded hb

/-- Every transition of the sequencer keeps the invariant (45_register_access.md R245). -/
theorem State.Inv.advance {s : State} (h : s.Inv) : s.advance.Inv := by
  unfold State.advance
  split
  case h_1 => exact h
  case h_2 hq => exact h.stepBuild hq
  case h_3 => exact h.stepSend
  case h_4 => exact h.stepWait
  case h_5 hq => exact h.stepDecode hq

/-! ### The invariant: the ports and the step -/

theorem State.Inv.refuseBusy {s : State} (h : s.Inv) : s.refuseBusy.Inv := h.datapath (DatapathOnly.emit s _)

theorem exchangeCount_range (v : Variant) (n : Nat) : exchangeCount v n = 1 ∨ exchangeCount v n = 2 := by
  cases v with
  | A => exact .inl rfl
  | B => simp only [exchangeCount]; split <;> simp

/-- The state in which an accepted WRREG or RDREG begins its first exchange (45_register_access.md R223). -/
theorem State.Inv.beginTransaction {s : State} (h : s.Inv) {c : Command} (hop : c.op = 1 ∨ c.op = 2)
    (hc : countOk c.count = true) (e : RegEntry) :
    ({ accepted c s with
        addr := e.base
        cls := e.cls
        nsb := exchangeCount s.cfg.variant c.count.toNat
        seq := .build } : State).Inv :=
  { h.accepted_standing c with
    notBusyDone := by simp [accepted]
    errDone := by simp [accepted]
    errFault := by simp [accepted]
    faultCode := Nat.zero_le 7
    finfoClear := fun _ => rfl
    nsbRange := exchangeCount_range _ _
    busyPhase := by simp
    phaseBusy := fun _ => rfl
    decodeRead := by simp
    busyOp := fun _ => hop
    busyCount := fun _ => by simpa [countOk, accepted] using hc
    busyExchanges := fun _ => rfl
    busySecond := by simp [accepted]
    busyInvalid := fun _ => rfl }

theorem State.Inv.registerCommand {s : State} (h : s.Inv) {c : Command} (hop : c.op = 1 ∨ c.op = 2) :
    (s.registerCommand c).Inv := by
  rcases State.registerCommand_cases c s with ⟨-, e⟩ | ⟨-, -, e⟩ | ⟨-, -, -, e⟩ | ⟨en, -, hc, -, e⟩ <;> rw [e]
  · exact h.refuseBusy
  · exact (h.accepted_standing c).raise _
  · exact (h.accepted_standing c).raise _
  · exact h.beginTransaction hop hc en

theorem State.Inv.illegalCommand {s : State} (h : s.Inv) (c : Command) : (s.illegalCommand c).Inv := by
  rcases State.illegalCommand_cases c s with ⟨-, e⟩ | ⟨-, e⟩ <;> rw [e]
  · exact h.refuseBusy
  · exact (h.accepted_standing c).raise _

/-- The host may load the operand registers while idle: no clause reads them but OP then, which it cannot load. -/
theorem State.Inv.writeOperand {s : State} (h : s.Inv) (hb : s.busy = false) (n v : Nat) :
    (s.writeOperand n v).Inv := by
  have hidle : s.busy ≠ true := by simp [hb]
  unfold State.writeOperand
  split
  case h_3 => exact { h with
    busyCount := fun hb' => absurd hb' hidle
    busyExchanges := fun hb' => absurd hb' hidle }
  all_goals exact { h with }

theorem State.Inv.execInternal {s t : State} {i : Instr} (h : s.Inv) (hi : isHostCommand i = false)
    (he : exec i s = .next t) : t.Inv := by
  rcases exec_internal_cases i s t hi he with hd | rfl
  · exact h.datapathThenFault hd
  · have hwait : ({ s with tries := 0, seq := .wait } : State).Inv :=
      (h.setPhase .wait (by simp) (by simp) (by simp)).datapath ⟨rfl, id, id⟩
    exact hwait.stepWait

/-- Every input but a reset keeps the invariant. -/
theorem State.Inv.stepEffect {u t : State} (h : u.Inv) (he : StepEffect u t) : t.Inv := by
  rcases he with rfl | ⟨c, hop, rfl⟩ | ⟨c, rfl⟩ | rfl | ⟨n, v, rfl⟩ | rfl | ⟨hb, n, v, rfl⟩ | ⟨-, i, hi, he⟩
  · exact h.advance
  · exact h.registerCommand hop
  · exact h.illegalCommand c
  · exact h.refuseBusy
  · exact h.datapath (DatapathOnly.emit u _)
  · exact h
  · exact h.writeOperand hb n v
  · exact h.execInternal hi he

/-- Settles O52: a reset establishes the invariant, and every other input keeps it. -/
theorem stepKeepsTheInvariant : Obligations.StepKeepsTheInvariant := by
  intro s t h hstep
  cases hr : resetPresented s with
  | true => rw [step_reset s t hstep hr]; exact State.resetRegisters_inv _
  | false => exact (h.datapath (DatapathOnly.inputs s _)).stepEffect (step_effect s t hstep hr)

end Sys2Proof.Machine
end

section
/-! PROOFS. The statements of 30_encoding.md: decoding inverts encoding, a wire row builds its frame, the fields of the
Variant B identifier, and a step runs the operation that is presented. -/

namespace Sys2Proof

/-! ### Bytes: parts of a sequence, little-endian values -/

theorem slice_append_middle (a b c : List Byte) {i j : Nat} (hi : a.length = i) (hj : i + b.length = j) :
    slice (a ++ b ++ c) i j = b := by
  subst hi hj
  rw [slice, ← List.length_append, List.take_left, List.drop_left]

theorem le16s_append (u v : List Half) : le16s (u ++ v) = le16s u ++ le16s v := by
  induction u with
  | nil => rfl
  | cons x u ih => simp [ih]

theorem le16_fieldAt (b : List Byte) {i : Nat} (h : i + 1 < b.length) : le16 (fieldAt b i) = [b[i], b[i + 1]] := by
  simp [le16, fieldAt, List.getD_eq_getElem?_getD, h, Nat.lt_of_succ_lt h]

/-- The values read from the first `2 * n` bytes are those bytes (20_memory.md R64). -/
theorem le16s_map_fieldAt (b : List Byte) {n : Nat} (h : 2 * n ≤ b.length) :
    le16s ((List.range n).map fun k => fieldAt b (2 * k)) = b.take (2 * n) := by
  induction n with
  | zero => rfl
  | succ n ih =>
    have hlast : 2 * n + 1 < b.length := by omega
    calc le16s ((List.range (n + 1)).map fun k => fieldAt b (2 * k))
        = b.take (2 * n) ++ le16 (fieldAt b (2 * n)) := by
          rw [List.range_succ, List.map_append, le16s_append, ih (by omega)]; rfl
      _ = b.take (2 * n) ++ [b[2 * n], b[2 * n + 1]] := by rw [le16_fieldAt b hlast]
      _ = b.take (2 * (n + 1)) := by
          rw [show 2 * (n + 1) = 2 * n + 1 + 1 from rfl, List.take_succ_eq_append_getElem hlast,
            List.take_succ_eq_append_getElem (Nat.lt_of_succ_lt hlast), List.append_assoc]
          rfl

/-! ### The decoder's readers on the encoder's parts -/

theorem takeBytes_append (b rest : List Byte) {n : Nat} (h : b.length = n) : takeBytes n (b ++ rest) = .ok (b, rest) := by
  subst h
  simp [takeBytes]

/-- Removing escapes up to a known length undoes the byte stuffer (44_byte_stuffer.md R208). -/
theorem takeUnstuffed_stuff (b rest : List Byte) : takeUnstuffed b.length (stuff b ++ rest) = .ok (b, rest) := by
  induction b with
  | nil => rfl
  | cons x b ih =>
    cases h : isReserved x with
    | true => simp [stuff_reserved x b h, takeUnstuffed, ih]
    | false => simp [stuff_plain x b h, takeUnstuffed, ne_esc_of_not_reserved x h, ih]

theorem takeCounted_counted {b : List Byte} (rest : List Byte) (h : fitsImage b = true) :
    takeCounted (counted b ++ rest) = .ok (b, rest) := by
  have hlen : b.length = (BitVec.ofNat 16 b.length).toNat := by
    rw [BitVec.toNat_ofNat, Nat.mod_eq_of_lt (by simpa [fitsImage] using h)]
  simp only [counted, le16, List.cons_append, List.nil_append, takeCounted, u16le_lo8_hi8]
  exact takeBytes_append b rest hlen

theorem decodeCounted_counted (mk : List Byte → Instr) {b : List Byte} (rest : List Byte) (h : fitsImage b = true) :
    decodeCounted mk (counted b ++ rest) = .ok (mk b, rest) := by
  rw [decodeCounted, takeCounted_counted rest h]

theorem takeVals_countedVals {v : List Half} (rest : List Byte) (h : valsFit v = true) :
    takeVals (countedVals v ++ rest) = .ok (v, rest) := by
  have hlen : (le16s v).length = 2 * (BitVec.ofNat 8 v.length).toNat := by
    rw [le16s_length, BitVec.toNat_ofNat, Nat.mod_eq_of_lt (by simpa [valsFit] using h)]
  simp only [countedVals, List.cons_append, takeVals, takeBytes_append _ rest hlen, u16s_le16s]

/-! ### What a well-formed wire frame is -/

theorem wellFormed_frameAWr_iff (dev len : Byte) (addr : Half) (vals : List Half) (ck : Byte) :
    wellFormed (.frameAWr dev len addr vals ck) = true ↔
      vals.length ≤ 6 ∧ len.toNat = 2 * vals.length + 3 ∧ ck = sum8 (frameAWrRange dev len addr vals) := by
  simp [wellFormed, and_assoc]

/-- The identifier class of a write is 1 (30_encoding.md R99, R104). -/
theorem wellFormed_frameBWr_iff (f : BFrame) :
    wellFormed (.frameBWr f) = true ↔ f.shapeOk = true ∧ f.idHigh / 4096 = 1 ∧ f.writeWindowOk = true := by
  have hclass : f.idHigh / 4096 = 1 ↔ 4096 ≤ f.idHigh ∧ f.idHigh < 8192 := by omega
  simp [wellFormed, hclass, and_assoc]

/-- The identifier class of a read is 0 (30_encoding.md R99, R104). -/
theorem wellFormed_frameBRd_iff (f : BFrame) :
    wellFormed (.frameBRd f) = true ↔ f.shapeOk = true ∧ f.idHigh / 4096 = 0 ∧ f.readWindowOk = true := by
  have hclass : f.idHigh / 4096 = 0 ↔ f.idHigh < 4096 := by omega
  simp [wellFormed, hclass, and_assoc]

/-! ### What the first bytes decide (30_encoding.md R104, R109) -/

theorem decode_of_isHostCode {b : Byte} (rest : List Byte) (h : isHostCode b = true) :
    decode (b :: rest) = decodeHost b rest := if_pos h

theorem decode_of_internalCode {b : Byte} (rest : List Byte) (hlow : 0x10 ≤ b.toNat) (hhigh : b.toNat ≤ 0x1E) :
    decode (b :: rest) = decodeInternal b rest := by
  have hhost : isHostCode b = false := by
    simp only [isHostCode, Bool.or_eq_false_iff, beq_eq_false_iff_ne]
    refine ⟨⟨?_, ?_⟩, ?_⟩ <;> rintro rfl <;> exact absurd hlow (by decide)
  have hA : b ≠ 0xEB := by rintro rfl; exact absurd hhigh (by decide)
  have hB : b ≠ 0xAA := by rintro rfl; exact absurd hhigh (by decide)
  simp only [decode, hhost, hA, hB, Bool.false_eq_true, if_false]

theorem decode_startA (rest : List Byte) : decode (0xEB#8 :: 0x90#8 :: rest) = decodeFrameA rest := rfl

theorem decode_startB (rest : List Byte) : decode (0xAA#8 :: 0xAA#8 :: rest) = decodeFrameB rest := rfl

/-! ### Decoding the host commands -/

theorem decodeRecord_encodeRecord (c : Command) (rest : List Byte) :
    decodeRecord c.op ((encodeRecord c).tail ++ rest) = .ok (c, rest) := by
  have hc : c.count.toNat < 16 := c.count.isLt
  have hbyte : c.count.toNat % 256 = c.count.toNat := Nat.mod_eq_of_lt (by omega)
  simp [encodeRecord, Six.toList, decodeRecord, hbyte, Nat.not_le.mpr hc]

theorem isHostCode_of_decodeCommand {c : Command} {i : Instr} (h : decodeCommand c = some i) :
    isHostCode c.op = true := by
  have hcode : c.op.toNat = 1 ∨ c.op.toNat = 2 ∨ c.op.toNat = 15 := by
    unfold decodeCommand at h
    split at h <;> simp_all
  simpa [isHostCode, ← BitVec.toNat_inj, or_assoc] using hcode

/-- The bytes of a record decode to the host command the record is (30_encoding.md R108, R109). -/
theorem decode_encodeRecord {c : Command} {i : Instr} (rest : List Byte) (h : decodeCommand c = some i) :
    decode (encodeRecord c ++ rest) = .ok (i, rest) := by
  have hcons : encodeRecord c ++ rest = c.op :: ((encodeRecord c).tail ++ rest) := rfl
  rw [hcons, decode_of_isHostCode _ (isHostCode_of_decodeCommand h), decodeHost, decodeRecord_encodeRecord]
  simp only [h]

/-! ### Decoding the Variant A frames -/

theorem decode_encode_frameAWr {dev len : Byte} {addr : Half} {vals : List Half} {ck : Byte} (rest : List Byte)
    (h : len.toNat = 2 * vals.length + 3) :
    decode (encode (.frameAWr dev len addr vals ck) ++ rest) = .ok (.frameAWr dev len addr vals ck, rest) := by
  have hcount : (le16s vals).length = 2 * ((len.toNat - 3) / 2) := by rw [le16s_length]; omega
  have hvals := takeBytes_append (le16s vals) (ck :: rest) hcount
  calc decode (encode (.frameAWr dev len addr vals ck) ++ rest)
      = decodeFrameA (dev :: len :: 0x12 :: lo8 addr :: hi8 addr :: (le16s vals ++ ck :: rest)) := by
        simp [encode, frameAWrRange, decode_startA]
    _ = .ok (.frameAWr dev len addr vals ck, rest) := by
        simp [decodeFrameA, hvals]

theorem decode_encode_frameARd (dev len : Byte) (addr : Half) (respLen ck : Byte) (rest : List Byte) :
    decode (encode (.frameARd dev len addr respLen ck) ++ rest) = .ok (.frameARd dev len addr respLen ck, rest) := by
  calc decode (encode (.frameARd dev len addr respLen ck) ++ rest)
      = decodeFrameA (dev :: len :: 0x11 :: lo8 addr :: hi8 addr :: respLen :: ck :: rest) := by
        simp [encode, frameARdRange, decode_startA]
    _ = .ok (.frameARd dev len addr respLen ck, rest) := by
        simp [decodeFrameA]

/-! ### Decoding the Variant B frames -/

theorem BFrame.shapeOk_iff (f : BFrame) :
    f.shapeOk = true ↔
      f.id.toNat % 16384 = 0x3FFF ∧ f.window.length = 8 ∧ f.ext = [0x00, 0x01, 0x00] ∧ f.ck = sum8 f.range ∧
        f.tail = [0x55, 0x55] := by
  simp [BFrame.shapeOk, and_assoc]

theorem BFrame.writeWindowOk_iff (f : BFrame) :
    f.writeWindowOk = true ↔
      f.dataLen.toNat ≤ 8 ∧ f.dataLen.toNat % 2 = 0 ∧ (f.window.drop f.dataLen.toNat).all (· == 0x00) = true := by
  simp only [BFrame.writeWindowOk, Bool.and_eq_true, decide_eq_true_eq, beq_iff_eq, and_assoc]

theorem BFrame.range_length {f : BFrame} (hw : f.window.length = 8) (he : f.ext.length = 3) : f.range.length = 16 := by
  simp [BFrame.range, hw, he]

/-- The seventeen unstuffed bytes behind the leading pair give the frame's fields back (30_encoding.md R96). -/
theorem bFrameOf_range {f : BFrame} (hw : f.window.length = 8) (he : f.ext.length = 3) :
    bFrameOf (f.range ++ [f.ck]) f.tail = f := by
  obtain ⟨id, window, dataLen, ext, ck, tail⟩ := f
  have hwindow : slice (le32 id ++ window ++ ([dataLen] ++ ext ++ [ck])) 4 12 = window :=
    slice_append_middle _ _ _ rfl (by rw [hw])
  have hext : slice (le32 id ++ window ++ [dataLen] ++ ext ++ [ck]) 13 16 = ext :=
    slice_append_middle _ _ _ (by simp [hw]) (by rw [he])
  have hdata : (le32 id ++ window ++ ([dataLen] ++ ext ++ [ck])).getD 12 0 = dataLen := by
    rw [List.getD_append_right _ _ _ _ (by simp [hw])]; simp [hw]
  have hck : (le32 id ++ window ++ [dataLen] ++ ext ++ [ck]).getD 16 0 = ck := by
    rw [List.getD_append_right _ _ _ _ (by simp [hw, he])]; simp [hw, he]
  simp only [BFrame.range, bFrameOf, hext, hck, BFrame.mk.injEq, and_true]
  simp only [List.append_assoc] at hwindow hdata ⊢
  exact ⟨u32le_le32 id, hwindow, hdata⟩

/-- `id3`, the byte that tells a write from a read (30_encoding.md R104). -/
theorem BFrame.range_id3 (f : BFrame) : ((f.range ++ [f.ck]).getD 3 0).toNat / 4 = f.idHigh / 4096 := by
  have hid := f.id.isLt
  have hbyte : (f.range ++ [f.ck]).getD 3 0 = BitVec.ofNat 8 (f.id.toNat / 2 ^ 24 % 256) := rfl
  rw [hbyte, BitVec.toNat_ofNat, BFrame.idHigh]
  omega

/-- A Variant B frame on the wire decodes by the class of its identifier (30_encoding.md R101, R104). -/
theorem decode_encodeFrameB {f : BFrame} (rest : List Byte) (h : f.shapeOk = true) :
    decode (encodeFrameB f ++ rest) =
      if f.idHigh / 4096 = 1 then .ok (.frameBWr f, rest)
      else if f.idHigh / 4096 = 0 then .ok (.frameBRd f, rest)
      else .error (.identifierClass ((f.range ++ [f.ck]).getD 3 0)) := by
  obtain ⟨-, hw, hext, -, htail⟩ := f.shapeOk_iff.mp h
  have he : f.ext.length = 3 := by rw [hext]; rfl
  have hlen : (f.range ++ [f.ck]).length = 17 := by simp [BFrame.range_length hw he]
  have hunstuff : takeUnstuffed 17 (stuff (f.range ++ [f.ck]) ++ 0x55 :: 0x55 :: rest) =
      .ok (f.range ++ [f.ck], 0x55 :: 0x55 :: rest) := hlen ▸ takeUnstuffed_stuff _ _
  have hfields : bFrameOf (f.range ++ [f.ck]) [0x55, 0x55] = f := htail ▸ bFrameOf_range hw he
  calc decode (encodeFrameB f ++ rest)
      = decodeFrameB (stuff (f.range ++ [f.ck]) ++ 0x55 :: 0x55 :: rest) := by
        simp [encodeFrameB, htail, decode_startB]
    _ = _ := by
        simp only [decodeFrameB, hunstuff, hfields, BFrame.range_id3]

/-! ### Decoding any operation -/

/-- Settles O4: one case for each operation, each by the lemma about the reader of its operands. -/
theorem decodeInvertsEncode : Obligations.DecodeInvertsEncode := by
  intro i rest hwf
  cases i with
  | wrreg name dev count values => exact decode_encodeRecord (c := ⟨0x01, name, dev, count, values⟩) rest rfl
  | rdreg name dev count values => exact decode_encodeRecord (c := ⟨0x02, name, dev, count, values⟩) rest rfl
  | reset => exact decode_encodeRecord (c := ⟨0x0F, 0, 0, 0, Six.all 0⟩) rest rfl
  | lookup name => rfl
  | cksum b => exact decodeCounted_counted .cksum rest hwf
  | stuff b => exact decodeCounted_counted .stuff rest hwf
  | unstuff b => exact decodeCounted_counted .unstuff rest hwf
  | decA raw => exact decodeCounted_counted .decA rest hwf
  | decB raw => exact decodeCounted_counted .decB rest hwf
  | send b => exact decodeCounted_counted .send rest (Bool.and_eq_true_iff.mp hwf).2
  | encAWr dev addr vals => simp [encode, le16, decode_of_internalCode, decodeInternal, takeVals_countedVals rest hwf]
  | encBWr addr vals => simp [encode, le16, decode_of_internalCode, decodeInternal, takeVals_countedVals rest hwf]
  | encARd | encBRd | sanClamp | sanSigned | recv =>
    simp [encode, le16, decode_of_internalCode, decodeInternal]
  | waitrsp => rfl
  | frameAWr dev len addr vals ck =>
    obtain ⟨-, hlen, -⟩ := (wellFormed_frameAWr_iff ..).mp hwf
    exact decode_encode_frameAWr rest hlen
  | frameARd dev len addr respLen ck => exact decode_encode_frameARd dev len addr respLen ck rest
  | frameBWr f =>
    obtain ⟨hshape, hclass, -⟩ := (wellFormed_frameBWr_iff f).mp hwf
    exact (decode_encodeFrameB rest hshape).trans (if_pos hclass)
  | frameBRd f =>
    obtain ⟨hshape, hclass, -⟩ := (wellFormed_frameBRd_iff f).mp hwf
    rw [encode, decode_encodeFrameB rest hshape, if_neg (by omega), if_pos hclass]

end Sys2Proof

namespace Sys2Proof.Machine

/-! ### The Variant B identifier -/

/-- `id[31:14]` of a request: the address, plus 4096 for a write (30_encoding.md R99). -/
def identHigh (w : Bool) (addr : Half) : Nat := addr.toNat + if w then 4096 else 0

theorem identHigh_le (w : Bool) (addr : Half) : identHigh w addr ≤ 69631 := by
  have h := addr.isLt
  unfold identHigh
  split <;> omega

/-- The sum of R99 does not wrap: above fourteen ones stands `identHigh`. -/
theorem ident_toNat (w : Bool) (addr : Half) : (ident w addr).toNat = identHigh w addr * 16384 + 0x3FFF := by
  have h := addr.isLt
  cases w <;> simp only [ident, identHigh, bit, BitVec.toNat_ofNat] <;> simp <;> omega

/-- Below 4096 the address field, the write bit and the bits above them separate (30_encoding.md R99). -/
theorem ident_fields (w : Bool) {addr : Half} (h : addr.toNat < 4096) :
    ((ident w addr).extractLsb' 14 12).toNat = addr.toNat ∧ (ident w addr).getLsbD 26 = w ∧
      (ident w addr).extractLsb' 27 5 = 0 := by
  have hid := ident_toNat w addr
  refine ⟨?address, ?write, ?above⟩
  case address =>
    rw [BitVec.extractLsb'_toNat, hid, Nat.shiftRight_eq_div_pow]
    cases w <;> simp [identHigh] <;> omega
  case write =>
    rw [BitVec.getLsbD, hid, Nat.testBit_eq_decide_div_mod_eq]
    cases w <;> simp [identHigh] <;> omega
  case above =>
    apply BitVec.eq_of_toNat_eq
    rw [BitVec.extractLsb'_toNat, hid, Nat.shiftRight_eq_div_pow]
    cases w <;> simp [identHigh] <;> omega

/-- A write and the read of the address 4096 higher have one identifier (30_encoding.md R99). -/
theorem ident_write_eq_read {addr : Half} (h : addr.toNat + 4096 ≤ 65535) :
    ident true addr = ident false (addr + 4096) := by
  apply BitVec.eq_of_toNat_eq
  have hadd : (addr + 4096).toNat = addr.toNat + 4096 := by
    rw [BitVec.toNat_add]
    exact Nat.mod_eq_of_lt (Nat.lt_succ_of_le h)
  rw [ident_toNat, ident_toNat, identHigh, identHigh, hadd]
  simp

/-- The identifier's four bytes (30_encoding.md R99). -/
theorem le32_ident (w : Bool) (addr : Half) :
    le32 (ident w addr) =
      [0xFF, BitVec.ofNat 8 (0x3F + 64 * (identHigh w addr % 4)), BitVec.ofNat 8 (identHigh w addr / 4),
        BitVec.ofNat 8 (identHigh w addr / 1024)] := by
  simp only [le32, ident_toNat, List.cons.injEq, ← BitVec.toNat_inj, BitVec.toNat_ofNat, BitVec.reduceToNat, and_true]
  omega

theorem id1_mem (a : Nat) : BitVec.ofNat 8 (0x3F + 64 * (a % 4)) ∈ ([0x3F, 0x7F, 0xBF, 0xFF] : List Byte) := by
  have hall : ∀ r < 4, BitVec.ofNat 8 (0x3F + 64 * r) ∈ ([0x3F, 0x7F, 0xBF, 0xFF] : List Byte) := by decide
  exact hall _ (Nat.mod_lt _ (by decide))

theorem isReserved_id1 (a : Nat) : isReserved (BitVec.ofNat 8 (0x3F + 64 * (a % 4))) = false := by
  have hall : ∀ x ∈ ([0x3F, 0x7F, 0xBF, 0xFF] : List Byte), isReserved x = false := by decide
  exact hall _ (id1_mem a)

/-- A byte below every reserved value is not reserved (44_byte_stuffer.md R200). -/
theorem isReserved_of_lt {n : Nat} (h : n < 0x55) : isReserved (BitVec.ofNat 8 n) = false := by
  simp [isReserved, ← BitVec.toNat_inj]
  omega

/-- Settles O18: the identifier is `identHigh` above fourteen ones; each field is read off that sum. -/
theorem identifierFields : Obligations.IdentifierFields := by
  intro w addr a
  have hmax : a ≤ 69631 := identHigh_le w addr
  have hid : (ident w addr).toNat = a * 16384 + 0x3FFF := ident_toNat w addr
  have hid3 : a / 1024 ≤ 67 := by omega
  refine ⟨?sum, ?bound, ?low, ?high, ident_fields w, ident_write_eq_read, le32_ident w addr, id1_mem a, hid3,
    by decide, isReserved_id1 a, isReserved_of_lt (by omega)⟩
  case sum =>
    rw [hid]
    cases w with
    | false => simp [a]
    | true => simp only [a, if_true]; omega
  case bound | low | high => omega

/-! ### Wire rows: each runs its encoder -/

theorem exec_frameAWr (dev len : Byte) (addr : Half) (vals : List Half) (ck : Byte) (s : State) :
    exec (.frameAWr dev len addr vals ck) s = .next ((s.encAWr dev addr vals).settle .bytes) := rfl

theorem exec_frameARd (dev len : Byte) (addr : Half) (respLen ck : Byte) (s : State) :
    exec (.frameARd dev len addr respLen ck) s = .next ((s.encARd dev addr).settle .bytes) := rfl

theorem exec_frameBWr (f : BFrame) (s : State) :
    exec (.frameBWr f) s = .next ((s.encBWr (frameAddr f) (frameVals f)).settle .bytes) := rfl

theorem exec_frameBRd (f : BFrame) (s : State) :
    exec (.frameBRd f) s = .next ((s.encBRd (frameAddr f) (frameCount f)).settle .bytes) := rfl

/-- Settles O6: each row and the encoder of the rule it cites run one operation on the state (log 8). -/
theorem wireRowsRunTheirEncoder : Obligations.WireRowsRunTheirEncoder :=
  ⟨exec_frameAWr, exec_frameARd, exec_frameBWr, exec_frameBRd⟩

/-! ### Wire rows: the frame's fields give its bytes back -/

theorem bodyAWr_eq_range {dev len : Byte} {addr : Half} {vals : List Half} (h : len.toNat = 2 * vals.length + 3) :
    bodyAWr dev addr vals = frameAWrRange dev len addr vals := by
  have hlen : BitVec.ofNat 8 ((2 * vals.length + 3) % 256) = len := by
    rw [← h, Nat.mod_eq_of_lt len.isLt, BitVec.ofNat_toNat, BitVec.setWidth_eq]
  rw [bodyAWr, hlen, frameAWrRange]

/-- The wire frame around a core of sixteen bytes (30_encoding.md R101, 42_frame_encode.md R153). -/
theorem wireB_unstuffedB {core : List Byte} (h : core.length = 16) :
    wireB (unstuffedB core) = [0xAA, 0xAA] ++ stuff (core ++ [sum8 core]) ++ [0x55, 0x55] := by
  have hslice : slice ([0xAA, 0xAA] ++ (core ++ [sum8 core]) ++ [0x55, 0x55]) 2 19 = core ++ [sum8 core] :=
    slice_append_middle _ _ _ rfl (by simp [h])
  rw [wireB, unstuffedB, List.append_assoc [0xAA, 0xAA] core, hslice]

/-- A frame's address and class give its identifier back (30_encoding.md R99, R104). -/
theorem ident_frameAddr {w : Bool} {f : BFrame} (hlow : f.id.toNat % 16384 = 0x3FFF)
    (hclass : f.idHigh / 4096 = bit w) : ident w (frameAddr f) = f.id := by
  apply BitVec.eq_of_toNat_eq
  rw [BFrame.idHigh] at hclass
  have haddr : (frameAddr f).toNat = f.id.toNat / 16384 % 4096 := by
    rw [frameAddr, BitVec.toNat_ofNat]; omega
  rw [ident_toNat, identHigh, haddr]
  cases w <;> simp [bit] at hclass ⊢ <;> omega

/-- Building a well-formed frame's bytes leaves the frame in TXBUF and its checksum byte in ACC. -/
theorem State.buildB_settle_of_shapeOk {w : Bool} {f : BFrame} (s : State) (hshape : f.shapeOk = true)
    (hclass : f.idHigh / 4096 = bit w) :
    (s.buildB w (frameAddr f) f.window f.dataLen).settle .bytes =
      { s with txbuf := encodeFrameB f, acc := f.ck, res := .bytes (encodeFrameB f) } := by
  obtain ⟨hlow, hw, hext, hck, htail⟩ := f.shapeOk_iff.mp hshape
  have hcore : coreB w (frameAddr f) f.window f.dataLen = f.range := by
    rw [coreB, ident_frameAddr hlow hclass, BFrame.range, hext]
  have hwire : wireB (unstuffedB f.range) = encodeFrameB f := by
    rw [wireB_unstuffedB (BFrame.range_length hw (by rw [hext]; rfl)), encodeFrameB, hck, htail]
  rw [State.buildB_eq, hcore, hwire, ← hck, Ran.settle_done]

/-- The values of a well-formed write fill the meaningful bytes of its window (30_encoding.md R97). -/
theorem frameVals_length {f : BFrame} (heven : f.dataLen.toNat % 2 = 0) :
    2 * (frameVals f).length = f.dataLen.toNat := by
  rw [frameVals, List.length_map, List.length_range]
  omega

theorem eq_replicate_zero_of_all {b : List Byte} {n : Nat} (hn : b.length = n) (h : b.all (· == 0x00) = true) :
    b = List.replicate n 0x00 :=
  List.eq_replicate_iff.mpr ⟨hn, by simpa using h⟩

theorem writeWindow_frameVals {f : BFrame} (hw : f.window.length = 8) (h : f.writeWindowOk = true) :
    writeWindow (frameVals f) = f.window := by
  obtain ⟨hle, heven, hpad⟩ := f.writeWindowOk_iff.mp h
  have hvals : le16s (frameVals f) = f.window.take f.dataLen.toNat := by
    rw [frameVals, le16s_map_fieldAt _ (by omega)]
    congr 1
    omega
  have hzeros : List.replicate (8 - f.dataLen.toNat) 0x00 = f.window.drop f.dataLen.toNat :=
    (eq_replicate_zero_of_all (by rw [List.length_drop, hw]) hpad).symm
  rw [writeWindow, frameVals_length heven, hvals, hzeros, List.take_append_drop]

/-- The window and length of a read in the configured form (30_encoding.md R98). -/
theorem readWindow_frameCount {f : BFrame} {form : BReadForm} (hw : f.window.length = 8) (h : f.readWindowOk = true)
    (hform : form = .empty ∧ f.dataLen = 0 ∨ form = .countByte ∧ f.dataLen = 1) :
    readWindow form (frameCount f) = f.window ∧ readDataLen form = f.dataLen := by
  simp only [BFrame.readWindowOk, Bool.or_eq_true, Bool.and_eq_true, beq_iff_eq] at h
  rcases hform with ⟨rfl, hd⟩ | ⟨rfl, hd⟩ <;> simp only [hd] at h ⊢
  case inl =>
    rcases h with ⟨-, hzero⟩ | ⟨⟨h01, -⟩, -⟩
    · exact ⟨(eq_replicate_zero_of_all hw hzero).symm, rfl⟩
    · exact absurd h01 (by decide)
  case inr =>
    rcases h with ⟨h10, -⟩ | ⟨⟨-, hfirst⟩, hzero⟩
    · exact absurd h10 (by decide)
    · have hrest := eq_replicate_zero_of_all (n := 7) (by rw [List.length_drop, hw]) hzero
      refine ⟨?_, rfl⟩
      rcases hfirst with hfirst | hfirst <;>
      · rw [frameCount, ← List.take_append_drop 1 f.window, hfirst, hrest]
        rfl

/-- Settles O5: the fields of a well-formed frame give the encoder's body, and so the frame's bytes, back. -/
theorem wireRowsBuildTheirFrame : Obligations.WireRowsBuildTheirFrame := by
  refine ⟨?aWrite, ?aRead, ?bWrite, ?bRead⟩
  case aWrite =>
    intro dev len addr vals ck s hwf
    obtain ⟨hcount, hlen, rfl⟩ := (wellFormed_frameAWr_iff ..).mp hwf
    rw [exec_frameAWr, State.encAWr_eq, if_neg (Nat.not_lt.mpr hcount), bodyAWr_eq_range hlen]
    rfl
  case aRead =>
    intro dev len addr respLen ck s hwf hread
    simp only [wellFormed, Bool.and_eq_true, beq_iff_eq] at hwf
    obtain ⟨rfl, rfl⟩ := hwf
    subst hread
    rw [exec_frameARd, State.encARd_eq]
    rfl
  case bWrite =>
    intro f s hwf
    obtain ⟨hshape, hclass, hwindow⟩ := (wellFormed_frameBWr_iff f).mp hwf
    obtain ⟨-, hw, -⟩ := f.shapeOk_iff.mp hshape
    obtain ⟨hle, heven, -⟩ := f.writeWindowOk_iff.mp hwindow
    have hlen := frameVals_length heven
    have hdata : BitVec.ofNat 8 (2 * (frameVals f).length) = f.dataLen := by
      rw [hlen, BitVec.ofNat_toNat, BitVec.setWidth_eq]
    rw [exec_frameBWr, State.encBWr, if_neg (by omega), writeWindow_frameVals hw hwindow, hdata,
      State.buildB_settle_of_shapeOk (w := true) s hshape hclass]
    rfl
  case bRead =>
    intro f s hwf hform
    obtain ⟨hshape, hclass, hwindow⟩ := (wellFormed_frameBRd_iff f).mp hwf
    obtain ⟨-, hw, -⟩ := f.shapeOk_iff.mp hshape
    obtain ⟨hwin, hdata⟩ := readWindow_frameCount hw hwindow hform
    rw [exec_frameBRd, State.encBRd, hwin, hdata, State.buildB_settle_of_shapeOk (w := false) s hshape hclass]
    rfl

/-! ### Frames and codes of the spec -/

theorem decode_of_encode {i : Instr} {image : List Byte} (hwf : wellFormed i = true) (h : encode i = image) :
    decode image = .ok (i, []) := by
  rw [← h, ← List.append_nil (encode i)]
  exact decodeInvertsEncode i [] hwf

/-- Settles O3: each frame is the encoding of a well-formed operation; the table words are evaluated. -/
theorem framesOfTheSpecDecode : Obligations.FramesOfTheSpecDecode := by
  refine ⟨?frameEA3, ?frameEA10, ?frameEB7, ?frameEB22, ?tableWords⟩
  case tableWords => decide
  all_goals exact decode_of_encode (by decide) (by decide)

/-! ### The step on a presented operation -/

/-- Settles O1: each port hands the operation it decodes to `exec`, the direct issue while no transaction is in
flight. -/
theorem stepRunsThePresentedOperation : Obligations.StepRunsThePresentedOperation := by
  refine ⟨?issue, ?command⟩
  case issue =>
    intro s image rest i r hin hdec hwf hidle
    rw [step_of_input hin, take, issue, hdec]
    simp [hidle]
  case command =>
    intro s c rest i hin hdec
    rw [step_of_input hin, take, present, hdec]

end Sys2Proof.Machine
end

section
/-! PROOFS. The statements of 40_checksum.md: the operation CKSUM and the accumulator. -/

namespace Sys2Proof.Machine

/-! ### The checksum accumulator -/

theorem byteSum_eq_sum_map (b : List Byte) : byteSum b = (b.map BitVec.toNat).sum := by
  induction b with
  | nil => rfl
  | cons x b ih => rw [byteSum, ih, List.map_cons, List.sum_cons]

theorem sum8_eq_sum_map (b : List Byte) : sum8 b = BitVec.ofNat 8 ((b.map BitVec.toNat).sum % 256) := by
  rw [sum8, byteSum_eq_sum_map]

/-- The sum of bytes does not depend on their order (40_checksum.md R131). -/
theorem sum8_eq_of_perm {b b' : List Byte} (h : b.Perm b') : sum8 b = sum8 b' := by
  rw [sum8_eq_sum_map, sum8_eq_sum_map, (h.map BitVec.toNat).sum_eq]

theorem State.foldl_cksumAdd (b : List Byte) (s : State) :
    b.foldl (fun t x => t.cksumAdd x) s = s.cksumAddAll b := by
  induction b generalizing s with
  | nil => rfl
  | cons x b ih => rw [List.foldl_cons, ih, State.cksumAddAll]

/-- CKSUM leaves `SUM8` of its bytes in ACC and in the latch, and changes nothing else (40_checksum.md R132). -/
theorem exec_cksum (b : List Byte) (s : State) :
    exec (.cksum b) s = .next { s with acc := sum8 b, res := .byte (sum8 b) } :=
  calc exec (.cksum b) s
    _ = .next { s.cksumRun b with res := .byte (s.cksumRun b).acc } := rfl
    _ = .next { s with acc := sum8 b, res := .byte (sum8 b) } := by rw [State.cksumRun_eq]

/-- Settles O7: the serial accumulator of `CKSUM` ends at `SUM8`, which is the explicit sum. -/
theorem checksumIsTheSumModulo256 : Obligations.ChecksumIsTheSumModulo256 := by
  intro b s
  rw [← sum8_eq_sum_map]
  exact ⟨exec_cksum b s, rfl⟩

/-- Settles O8: adding the bytes after a clear is a run of the accumulator over them in the order given, and `SUM8`
is the same for every order. -/
theorem accumulatorDoesNotDependOnTheOrder : Obligations.AccumulatorDoesNotDependOnTheOrder := by
  refine ⟨fun _ => rfl, fun _ _ => rfl, ?anyOrder⟩
  case anyOrder =>
    intro s b b' hperm
    have hrun : b'.foldl (fun t x => t.cksumAdd x) s.cksumClear = s.cksumRun b' := State.foldl_cksumAdd b' _
    rw [hrun, State.cksumRun_eq, sum8_eq_of_perm hperm]

end Sys2Proof.Machine
end

section
/-! PROOFS. The statements of 41_regmap.md: the operation LOOKUP. -/

namespace Sys2Proof.Machine

/-! ### LOOKUP issued directly -/

theorem State.lookup_of_find_some {name : Byte} {s : State} {e : RegEntry}
    (hentry : s.cfg.regmap.find? (fun e => e.name == name) = some e) :
    s.lookup name = .done e { s with addr := e.base, cls := e.cls } := by
  rw [State.lookup, findEntry_eq_find, hentry]

theorem State.lookup_of_find_none {name : Byte} {s : State}
    (hmissing : s.cfg.regmap.find? (fun e => e.name == name) = none) :
    s.lookup name = .raised .unknownRegister s := by
  rw [State.lookup, findEntry_eq_find, hmissing]

theorem exec_lookup (name : Byte) (s : State) :
    exec (.lookup name) s = .next ((s.lookup name).settle fun e => .entry e.base e.cls) := rfl

/-- LOOKUP of a name with an entry writes ADDR, CLS and the latch, and changes nothing else (41_regmap.md R142). -/
theorem exec_lookup_of_find_some {name : Byte} {s : State} {e : RegEntry}
    (hentry : s.cfg.regmap.find? (fun e => e.name == name) = some e) :
    exec (.lookup name) s = .next { s with addr := e.base, cls := e.cls, res := .entry e.base e.cls } := by
  rw [exec_lookup, State.lookup_of_find_some hentry, Ran.settle_done]

/-- LOOKUP of a name without entry makes the fault entry of UnknownRegister, and does nothing else (41_regmap.md
R142, log 11). -/
theorem exec_lookup_of_find_none {name : Byte} {s : State}
    (hmissing : s.cfg.regmap.find? (fun e => e.name == name) = none) :
    exec (.lookup name) s = .next (faulted 1 s.finfoNow s) := by
  rw [exec_lookup, State.lookup_of_find_none hmissing, Ran.settle_raised, State.raise_eq, Cause.code]

/-- Settles O9: LOOKUP finds the entry or raises, and each listed name has its entry in the table. -/
theorem lookupFindsTheEntryOrFaults : Obligations.LookupFindsTheEntryOrFaults := by
  refine ⟨fun _ _ _ => exec_lookup_of_find_some, fun _ _ => exec_lookup_of_find_none, ?listedNames, fun _ => rfl⟩
  case listedNames =>
    intro s hmap
    have hentry (name : Byte) (e : RegEntry)
        (hlisted : Config.listedRegisters.find? (fun e => e.name == name) = some e) :
        exec (.lookup name) s = .next { s with addr := e.base, cls := e.cls, res := .entry e.base e.cls } :=
      exec_lookup_of_find_some (hmap ▸ hlisted)
    exact ⟨hentry 0 ⟨0, 1486, .magnitude⟩ rfl, hentry 1 ⟨1, 1498, .magnitude⟩ rfl, hentry 2 ⟨2, 1522, .magnitude⟩ rfl,
      hentry 3 ⟨3, 1546, .magnitude⟩ rfl, hentry 4 ⟨4, 1582, .signed⟩ rfl, exec_lookup_of_find_none (hmap ▸ rfl)⟩

end Sys2Proof.Machine
end

section
/-! PROOFS. The statements of 42_frame_encode.md: the bytes each ENC operation builds, and the device id in Variant
B. -/

namespace Sys2Proof

/-! ### Words, identifiers, sums and escapes as the statements write them -/

theorem ofNat_mod_two_pow (w n : Nat) : BitVec.ofNat w (n % 2 ^ w) = BitVec.ofNat w n := by
  simp [← BitVec.toNat_inj]

theorem lo8_eq_extractLsb' (x : Half) : lo8 x = x.extractLsb' 0 8 := by
  simp [lo8, ← BitVec.toNat_inj]

theorem hi8_eq_extractLsb' (x : Half) : hi8 x = x.extractLsb' 8 8 := by
  simp [hi8, ← BitVec.toNat_inj, Nat.shiftRight_eq_div_pow]

theorem le16s_eq_flatMap (vals : List Half) :
    le16s vals = vals.flatMap fun v => [v.extractLsb' 0 8, v.extractLsb' 8 8] := by
  induction vals with
  | nil => rfl
  | cons v vals ih =>
    rw [le16s_cons, ih, lo8_eq_extractLsb', hi8_eq_extractLsb']
    rfl

/-- `le32` keeps the low 32 bits of a number, low byte first (00_scope.md R11). -/
theorem le32_ofNat (n : Nat) :
    le32 (BitVec.ofNat 32 n) =
      [BitVec.ofNat 8 n, BitVec.ofNat 8 (n / 256), BitVec.ofNat 8 (n / 65536), BitVec.ofNat 8 (n / 16777216)] := by
  simp only [le32, List.cons.injEq, ← BitVec.toNat_inj, BitVec.toNat_ofNat, and_true]
  omega

theorem isReserved_iff_mem (x : Byte) : isReserved x = true ↔ x ∈ ([0xAA, 0x55, 0xA5] : List Byte) := by
  simp [isReserved, or_assoc]

/-- STUFF goes byte by byte, and escapes the reserved ones (44_byte_stuffer.md R201). -/
theorem stuff_eq_flatMap (b : List Byte) :
    stuff b = b.flatMap fun x => if x ∈ [0xAA, 0x55, 0xA5] then [0xA5, x] else [x] := by
  induction b with
  | nil => rfl
  | cons x b ih =>
    rw [stuff, ih, List.flatMap_cons]
    simp only [isReserved_iff_mem]
    split <;> rfl

end Sys2Proof

namespace Sys2Proof.Machine

theorem sum8_eq_ofNat_sum (b : List Byte) : sum8 b = BitVec.ofNat 8 (b.map BitVec.toNat).sum := by
  rw [sum8_eq_sum_map]
  exact ofNat_mod_two_pow 8 _

/-! ### The encoders issued directly -/

theorem exec_encAWr (dev : Byte) (addr : Half) (vals : List Half) (s : State) :
    exec (.encAWr dev addr vals) s = .next ((s.encAWr dev addr vals).settle .bytes) := rfl

theorem exec_encARd (dev : Byte) (addr : Half) (s : State) :
    exec (.encARd dev addr) s = .next ((s.encARd dev addr).settle .bytes) := rfl

theorem exec_encBWr (addr : Half) (vals : List Half) (s : State) :
    exec (.encBWr addr vals) s = .next ((s.encBWr addr vals).settle .bytes) := rfl

theorem exec_encBRd (addr : Half) (c : Byte) (s : State) :
    exec (.encBRd addr c) s = .next ((s.encBRd addr c).settle .bytes) := rfl

/-- ENC.A.WR of up to six values writes the frame and its sum (42_frame_encode.md R150). -/
theorem exec_encAWr_of_fits (dev : Byte) (addr : Half) {vals : List Half} (s : State) (h : vals.length ≤ 6) :
    exec (.encAWr dev addr vals) s =
      .next { s with
        txbuf := frameA (bodyAWr dev addr vals)
        acc := sum8 (bodyAWr dev addr vals)
        res := .bytes (frameA (bodyAWr dev addr vals)) } := by
  rw [exec_encAWr, State.encAWr_eq, if_neg (Nat.not_lt.mpr h), Ran.settle_done]

/-- ENC.A.WR of more than six values makes the fault entry of BadCount (42_frame_encode.md R150, log 11). -/
theorem exec_encAWr_of_tooMany (dev : Byte) (addr : Half) {vals : List Half} (s : State) (h : 6 < vals.length) :
    exec (.encAWr dev addr vals) s = .next (faulted 5 s.finfoNow s) := by
  rw [exec_encAWr, State.encAWr_eq, if_pos h, Ran.settle_raised, State.raise_eq, Cause.code]

/-- B_BUILD issued directly writes the stuffed frame and the sum of its core (42_frame_encode.md R153). -/
theorem State.buildB_settle (w : Bool) (addr : Half) (window : List Byte) (d : Byte) (s : State) :
    (s.buildB w addr window d).settle .bytes =
      { s with
        txbuf := wireB (unstuffedB (coreB w addr window d))
        acc := sum8 (coreB w addr window d)
        res := .bytes (wireB (unstuffedB (coreB w addr window d))) } := by
  rw [State.buildB_eq, Ran.settle_done]

/-- ENC.B.WR of up to four values runs B_BUILD (42_frame_encode.md R154). -/
theorem exec_encBWr_of_fits (addr : Half) {vals : List Half} (s : State) (h : vals.length ≤ 4) :
    exec (.encBWr addr vals) s =
      .next ((s.buildB true addr (writeWindow vals) (BitVec.ofNat 8 (2 * vals.length))).settle .bytes) := by
  rw [exec_encBWr, State.encBWr, if_neg (Nat.not_lt.mpr h)]

/-- ENC.B.WR of more than four values makes the fault entry of BadCount (42_frame_encode.md R154, log 11). -/
theorem exec_encBWr_of_tooMany (addr : Half) {vals : List Half} (s : State) (h : 4 < vals.length) :
    exec (.encBWr addr vals) s = .next (faulted 5 s.finfoNow s) := by
  rw [exec_encBWr, State.encBWr, if_pos h, Ran.settle_raised, State.raise_eq, Cause.code]

/-! ### The bytes of the frames -/

/-- The checksum range of an A-WR frame (42_frame_encode.md R150). -/
theorem bodyAWr_bytes (dev : Byte) (addr : Half) (vals : List Half) :
    bodyAWr dev addr vals =
      [dev, BitVec.ofNat 8 (2 * vals.length + 3), 0x12, addr.extractLsb' 0 8, addr.extractLsb' 8 8] ++
        vals.flatMap fun v => [v.extractLsb' 0 8, v.extractLsb' 8 8] := by
  have hlen : BitVec.ofNat 8 ((2 * vals.length + 3) % 256) = BitVec.ofNat 8 (2 * vals.length + 3) :=
    ofNat_mod_two_pow 8 _
  rw [bodyAWr, hlen, lo8_eq_extractLsb', hi8_eq_extractLsb', le16s_eq_flatMap]

/-- The checksum range of an A-RD frame (42_frame_encode.md R152). -/
theorem bodyARd_bytes (c : Config) (dev : Byte) (addr : Half) :
    bodyARd c dev addr = [dev, c.aReadLen, 0x11, addr.extractLsb' 0 8, addr.extractLsb' 8 8, 0x0C] := by
  rw [bodyARd, lo8_eq_extractLsb', hi8_eq_extractLsb']

theorem frameA_bytes (body : List Byte) :
    frameA body = [0xEB, 0x90] ++ body ++ [BitVec.ofNat 8 (body.map BitVec.toNat).sum] := by
  rw [frameA, sum8_eq_ofNat_sum]

/-- The identifier's bytes as those of the sum of R99 (30_encoding.md R99). -/
theorem le32_ident_bytes (w : Bool) (addr : Half) {id : Nat}
    (h : id = bit w * 0x04000000 + addr.toNat * 16384 + 0x3FFF) :
    le32 (ident w addr) =
      [BitVec.ofNat 8 id, BitVec.ofNat 8 (id / 256), BitVec.ofNat 8 (id / 65536), BitVec.ofNat 8 (id / 16777216)] := by
  rw [ident, ← h, ofNat_mod_two_pow, le32_ofNat]

/-- The window of a read and its length byte, in either form (30_encoding.md R98). -/
theorem readWindow_bytes (form : BReadForm) (c : Byte) :
    readWindow form c ++ [readDataLen form] =
      if form = .empty then [0, 0, 0, 0, 0, 0, 0, 0, 0]
      else [if c.toNat < 128 then 2 * c else Config.freeCountByte c, 0, 0, 0, 0, 0, 0, 0, 1] := by
  cases form with
  | empty => rfl
  | countByte =>
    rw [← countByteOf_eq]
    rfl

theorem writeWindow_length {vals : List Half} (h : vals.length ≤ 4) : (writeWindow vals).length = 8 := by
  simp only [writeWindow, List.length_append, le16s_length, List.length_replicate]
  omega

theorem coreB_length (w : Bool) (addr : Half) {window : List Byte} (d : Byte) (h : window.length = 8) :
    (coreB w addr window d).length = 16 := by
  simp [coreB, h]

/-- The wire frame around a core: its bytes and their sum, escaped, between the delimiters (30_encoding.md R101). -/
theorem wireB_bytes {core : List Byte} (h : core.length = 16) :
    wireB (unstuffedB core) =
      [0xAA, 0xAA] ++ ((core ++ [BitVec.ofNat 8 (core.map BitVec.toNat).sum]).flatMap fun x =>
        if x ∈ [0xAA, 0x55, 0xA5] then [0xA5, x] else [x]) ++ [0x55, 0x55] := by
  rw [wireB_unstuffedB h, sum8_eq_ofNat_sum, stuff_eq_flatMap]

/-! ### The statements on the four encoders -/

/-- Settles O14: the body's bytes, then the frame around them; above six values the fault entry. -/
theorem encodeAWriteFrame : Obligations.EncodeAWriteFrame := by
  intro dev addr vals s body ck frame
  have hbody : bodyAWr dev addr vals = body := bodyAWr_bytes dev addr vals
  have hck : sum8 body = ck := sum8_eq_ofNat_sum body
  have hframe : frameA body = frame := frameA_bytes body
  refine ⟨fun hfits => ⟨?written, ?length⟩, exec_encAWr_of_tooMany dev addr s, rfl⟩
  case written => rw [exec_encAWr_of_fits dev addr s hfits, hbody, hck, hframe]
  case length =>
    rw [← hframe, ← hbody, frameA_length]
    simp only [bodyAWr, List.length_append, List.length_cons, List.length_nil, le16s_length]
    omega

/-- Settles O15: the body's bytes, then the frame around them. -/
theorem encodeAReadFrame : Obligations.EncodeAReadFrame := by
  intro dev addr s body ck frame
  have hbody : bodyARd s.cfg dev addr = body := bodyARd_bytes s.cfg dev addr
  have hck : sum8 body = ck := sum8_eq_ofNat_sum body
  have hframe : frameA body = frame := frameA_bytes body
  refine ⟨?written, rfl, rfl⟩
  case written => rw [exec_encARd, State.encARd_eq, Ran.settle_done, hbody, hck, hframe]

/-- Settles O16: the core's bytes, then the wire frame around them; above four values the fault entry. -/
theorem encodeBWriteFrame : Obligations.EncodeBWriteFrame := by
  intro addr vals s id core ck frame
  refine ⟨fun hfits => ?written, exec_encBWr_of_tooMany addr s⟩
  case written =>
    have hid : id = bit true * 0x04000000 + addr.toNat * 16384 + 0x3FFF := rfl
    have hcore : coreB true addr (writeWindow vals) (BitVec.ofNat 8 (2 * vals.length)) = core := by
      rw [coreB, le32_ident_bytes true addr hid, writeWindow, le16s_eq_flatMap]
      simp only [core, List.append_assoc, List.cons_append, List.nil_append]
    have hlen : core.length = 16 := hcore ▸ coreB_length true addr _ (writeWindow_length hfits)
    have hck : sum8 core = ck := sum8_eq_ofNat_sum core
    have hframe : wireB (unstuffedB core) = frame := wireB_bytes hlen
    rw [exec_encBWr_of_fits addr s hfits, State.buildB_settle, hcore, hck, hframe]

/-- Settles O17: the window in the configured form, then the wire frame around the core. -/
theorem encodeBReadFrame : Obligations.EncodeBReadFrame := by
  intro addr c s id first window core ck frame
  have hid : id = bit false * 0x04000000 + addr.toNat * 16384 + 0x3FFF := by simp [id, bit]
  have hwindow : readWindow s.cfg.bReadForm c ++ [readDataLen s.cfg.bReadForm] = window :=
    readWindow_bytes s.cfg.bReadForm c
  have hcore : coreB false addr (readWindow s.cfg.bReadForm c) (readDataLen s.cfg.bReadForm) = core := by
    rw [coreB, le32_ident_bytes false addr hid, List.append_assoc _ (readWindow _ _), hwindow]
  have hlen : core.length = 16 := hcore ▸ coreB_length false addr _ (readWindow_length _ c)
  have hck : sum8 core = ck := sum8_eq_ofNat_sum core
  have hframe : wireB (unstuffedB core) = frame := wireB_bytes hlen
  rw [exec_encBRd, State.encBRd, State.buildB_settle, hcore, hck, hframe]

/-! ### BUILD in Variant B -/

/-- A Variant B write never offers more than four values to an exchange (45_register_access.md R222). -/
theorem State.subBlockValues_length_le (s : State) : s.subBlockValues.length ≤ 4 := by
  have hsix : s.wv.toList.length = 6 := rfl
  rw [State.subBlockValues, State.suppliedValues]
  split
  · exact List.length_take_le ..
  · rw [List.length_drop, List.length_take, hsix]
    omega

/-- The core of the frame that BUILD builds in Variant B (42_frame_encode.md R153, R154, R156). -/
def State.requestCoreB (s : State) : List Byte :=
  if s.op = opRdreg then
    coreB false s.exchangeAddr (readWindow s.cfg.bReadForm s.requestedValues) (readDataLen s.cfg.bReadForm)
  else coreB true s.exchangeAddr (writeWindow s.subBlockValues) (BitVec.ofNat 8 (2 * s.subBlockValues.length))

/-- In Variant B BUILD always ends with a frame: its values fit, so BadCount is out of reach there. -/
theorem State.stepBuild_of_variantB {s : State} (hvariant : s.cfg.variant = .B) :
    s.stepBuild =
      { s with
        txbuf := wireB (unstuffedB s.requestCoreB)
        acc := sum8 s.requestCoreB
        seq := .send } := by
  rw [State.stepBuild, State.encodeRequest, State.requestCoreB, hvariant]
  split_ifs with hread
  case pos => simp only [State.encBRd, State.buildB_eq]
  case neg => simp only [State.encBWr, if_neg (Nat.not_lt.mpr s.subBlockValues_length_le), State.buildB_eq]

theorem State.advance_of_build {s : State} (h : s.seq = .build) : s.advance = s.stepBuild := by
  rw [State.advance, h]

/-- Settles O38: the core of a Variant B request does not read DEVID, and BUILD writes its frame alone. -/
theorem deviceIdIsIgnoredInVariantB : Obligations.DeviceIdIsIgnoredInVariantB := by
  intro s d hvariant hbuild
  have hcore : State.requestCoreB { s with devid := d } = s.requestCoreB := rfl
  rw [State.advance_of_build (s := { s with devid := d }) hbuild, State.advance_of_build hbuild,
    State.stepBuild_of_variantB (s := { s with devid := d }) hvariant, State.stepBuild_of_variantB hvariant, hcore]

end Sys2Proof.Machine
end

section
/-! PROOFS. The statements of 43_frame_decode.md: the fields and the faults of DEC.A and DEC.B, the start marker and the
garbage before it, and the sanitisers. -/

namespace Sys2Proof

/-! ### Fields of a buffer -/

theorem fieldAt_congr {b b' : List Byte} {i : Nat} (hlow : b.getD i 0 = b'.getD i 0)
    (hhigh : b.getD (i + 1) 0 = b'.getD (i + 1) 0) : fieldAt b i = fieldAt b' i := by
  rw [fieldAt, fieldAt, hlow, hhigh]

theorem fieldAt_append_right (a b : List Byte) (j : Nat) : fieldAt (a ++ b) (a.length + j) = fieldAt b j := by
  simp [fieldAt, Nat.add_assoc, List.getElem?_append_right]

theorem fieldAt_append_left {a : List Byte} (b : List Byte) {i : Nat} (h : i + 1 < a.length) :
    fieldAt (a ++ b) i = fieldAt a i :=
  fieldAt_congr (List.getD_append a b 0 i (Nat.lt_of_succ_lt h)) (List.getD_append a b 0 (i + 1) h)

/-! ### Removing escapes -/

theorem unstuff_plain {x : Byte} (b : List Byte) (h : x ≠ esc) :
    unstuff (x :: b) = (x :: (unstuff b).1, (unstuff b).2) := by
  cases b with
  | nil => simp [unstuff, h]
  | cons y b => simp [unstuff, h]

theorem unstuff_escaped (y : Byte) (b : List Byte) : unstuff (esc :: y :: b) = (y :: (unstuff b).1, (unstuff b).2) := by
  simp [unstuff]

/-- The escapes the byte stuffer put in are removed, and the bytes behind are unstuffed on their own
(44_byte_stuffer.md R208). -/
theorem unstuff_stuff_append (b rest : List Byte) :
    unstuff (stuff b ++ rest) = (b ++ (unstuff rest).1, (unstuff rest).2) := by
  induction b with
  | nil => rfl
  | cons x b ih =>
    cases h : isReserved x with
    | true => simp [stuff_reserved x b h, unstuff_escaped, ih]
    | false => simp [stuff_plain x b h, unstuff_plain _ (ne_esc_of_not_reserved x h), ih]

end Sys2Proof

namespace Sys2Proof.Machine

/-- The byte-serial unstuffer computes `UNSTUFF` (44_byte_stuffer.md R206); a pending escape takes the next byte as it
is, so the recursion follows that of `unstuff`. -/
theorem unstuffSerial_false (b : List Byte) : unstuffSerial false b = unstuff b := by
  induction b using unstuff.induct with
  | case1 => rfl
  | case2 => rfl
  | case3 x hplain => simp [unstuffSerial, unstuffByte, unstuff, hplain]
  | case4 y rest ih => simp [unstuffSerial, unstuffByte, unstuff, ih]
  | case5 x y rest hplain ih => simp [unstuffSerial, unstuffByte, unstuff, hplain, ← ih]

/-! ### The fields of a response -/

/-- DEC.A looks at bytes 7 to 18 alone (43_frame_decode.md R172). -/
theorem fieldsA_congr {raw raw' : List Byte} (h : ∀ i, 7 ≤ i → i < 19 → raw.getD i 0 = raw'.getD i 0) :
    fieldsA raw = fieldsA raw' := by
  have hfield {i : Nat} (hlow : 7 ≤ i) (hhigh : i + 1 < 19) : fieldAt raw i = fieldAt raw' i :=
    fieldAt_congr (h i hlow (by omega)) (h (i + 1) (by omega) hhigh)
  simp [fieldsA, hfield]

/-- DEC.B looks at the eight bytes of the window alone (43_frame_decode.md R178). -/
theorem fieldsB_window {head window : List Byte} (tail : List Byte) (hhead : head.length = 6)
    (hwindow : window.length = 8) :
    fieldsB (head ++ window ++ tail) = ⟨fieldAt window 0, fieldAt window 2, fieldAt window 4, fieldAt window 6⟩ := by
  have hfield (j : Nat) (hj : j + 1 < 8) : fieldAt (head ++ window ++ tail) (6 + j) = fieldAt window j := by
    rw [List.append_assoc, ← hhead, fieldAt_append_right, fieldAt_append_left _ (hwindow ▸ hj)]
  rw [fieldsB, Four.mk.injEq]
  exact ⟨hfield 0 (by omega), hfield 2 (by omega), hfield 4 (by omega), hfield 6 (by omega)⟩

/-! ### DEC.A by case (43_frame_decode.md R170, R171, R174) -/

theorem exec_decA (raw : List Byte) (s : State) : exec (.decA raw) s = .next ((s.decA raw).settle .six) := rfl

theorem State.decA_of_short {raw : List Byte} {s : State} (h : raw.length < needA s.cfg) :
    s.decA raw = .raised .malformedFrame s := if_pos h

theorem needA_of_unverified {c : Config} (h : c.rxVerify = false) : needA c = 19 := by simp [needA, h]

theorem needA_of_verified {c : Config} (h : c.rxVerify = true) : needA c = 20 := if_pos h

theorem badSumA_of_verified {c : Config} (raw : List Byte) (h : c.rxVerify = true) :
    badSumA c raw = true ↔ raw.getD 19 0 ≠ sum8 (slice raw 2 19) := by
  rw [badSumA, h, Bool.true_and, bne_iff_ne, ne_comm]

theorem State.decA_of_unverified {raw : List Byte} {s : State} (hverify : s.cfg.rxVerify = false)
    (hlen : 19 ≤ raw.length) : s.decA raw = .done (fieldsA raw) s := by
  have hneed : ¬raw.length < needA s.cfg := by rw [needA_of_unverified hverify]; omega
  simp [State.decA, hneed, badSumA, State.verifyRun, hverify]

theorem State.decA_of_verified {raw : List Byte} {s : State} (hverify : s.cfg.rxVerify = true)
    (hlen : 20 ≤ raw.length) (hsum : raw.getD 19 0 = sum8 (slice raw 2 19)) :
    s.decA raw = .done (fieldsA raw) { s with acc := sum8 (slice raw 2 19) } := by
  have hneed : ¬raw.length < needA s.cfg := by rw [needA_of_verified hverify]; omega
  have hgood : ¬badSumA s.cfg raw = true := fun h => (badSumA_of_verified raw hverify).mp h hsum
  rw [State.decA, if_neg hneed, if_neg hgood, State.verifyRun_eq, if_pos hverify]

theorem State.decA_of_mismatch {raw : List Byte} {s : State} (hverify : s.cfg.rxVerify = true)
    (hlen : 20 ≤ raw.length) (hsum : raw.getD 19 0 ≠ sum8 (slice raw 2 19)) :
    s.decA raw = .raised .checksumMismatch { s with acc := sum8 (slice raw 2 19) } := by
  have hneed : ¬raw.length < needA s.cfg := by rw [needA_of_verified hverify]; omega
  rw [State.decA, if_neg hneed, if_pos ((badSumA_of_verified raw hverify).mpr hsum), State.verifyRun_eq, if_pos hverify]

/-- Settles O20: one clause for each outcome of DEC.A; the checksum is the sum of bytes 2 to 18. -/
theorem decodeAReadsSixFields : Obligations.DecodeAReadsSixFields := by
  intro raw s field sum fields
  have hsum : sum8 (slice raw 2 19) = sum := sum8_eq_ofNat_sum _
  have hshort (h : raw.length < needA s.cfg) : exec (.decA raw) s = .next (faulted 4 s.finfoNow s) := by
    rw [exec_decA, State.decA_of_short h, Ran.settle_raised, State.raise_eq, Cause.code]
  refine ⟨?unverified, ?unverifiedShort, ?verified, ?mismatch, ?verifiedShort⟩
  case unverified =>
    intro hverify hlen
    rw [exec_decA, State.decA_of_unverified hverify hlen]
    rfl
  case unverifiedShort =>
    intro hverify hlen
    exact hshort (by rwa [needA_of_unverified hverify])
  case verified =>
    intro hverify hlen hck
    rw [exec_decA, State.decA_of_verified hverify hlen (hck.trans hsum.symm), hsum]
    rfl
  case mismatch =>
    intro hverify hlen hck
    rw [exec_decA, State.decA_of_mismatch hverify hlen (hsum ▸ hck), hsum]
    rfl
  case verifiedShort =>
    intro hverify hlen
    exact hshort (by rwa [needA_of_verified hverify])

/-! ### The start marker (43_frame_decode.md R175, R176) -/

theorem markerIndex_lt_iff (raw : List Byte) : raw.findIdx (· == 0xAA) < raw.length ↔ (0xAA : Byte) ∈ raw := by
  simp [List.findIdx_lt_length]

theorem findStart_eq_findIdx? (raw : List Byte) : findStart raw = raw.findIdx? (· == 0xAA) := by
  induction raw with
  | nil => rfl
  | cons x raw ih =>
    rw [findStart, ih, List.findIdx?_cons]
    by_cases hx : x = 0xAA
    · exact (if_pos hx).trans (if_pos (beq_iff_eq.mpr hx)).symm
    · exact (if_neg hx).trans (if_neg (mt beq_iff_eq.mp hx)).symm

theorem findStart_of_not_mem {raw : List Byte} (h : (0xAA : Byte) ∉ raw) : findStart raw = none := by
  rw [findStart_eq_findIdx?, List.findIdx?_eq_none_iff]
  exact fun x hx => beq_false_of_ne (ne_of_mem_of_not_mem hx h)

theorem findStart_of_mem {raw : List Byte} (h : (0xAA : Byte) ∈ raw) :
    findStart raw = some (raw.findIdx (· == 0xAA)) := by
  rw [findStart_eq_findIdx?, List.findIdx?_eq_some_iff_findIdx_eq]
  exact ⟨(markerIndex_lt_iff raw).mpr h, rfl⟩

/-- Garbage without a marker moves the first marker by its length (43_frame_decode.md R181). -/
theorem markerIndex_append_of_not_mem {g : List Byte} (raw : List Byte) (h : (0xAA : Byte) ∉ g) :
    (g ++ raw).findIdx (· == 0xAA) = g.length + raw.findIdx (· == 0xAA) := by
  rw [List.findIdx_append, if_neg (mt (markerIndex_lt_iff g).mp h), Nat.add_comm]

/-- A marker in the garbage is the first one (43_frame_decode.md R181). -/
theorem markerIndex_append_of_mem {g : List Byte} (raw : List Byte) (h : (0xAA : Byte) ∈ g) :
    (g ++ raw).findIdx (· == 0xAA) = g.findIdx (· == 0xAA) := by
  rw [List.findIdx_append, if_pos ((markerIndex_lt_iff g).mpr h)]

theorem bytesFromMarker_append_of_not_mem {g : List Byte} (c : Config) (raw : List Byte) (h : (0xAA : Byte) ∉ g) :
    bytesFromMarker c (g ++ raw) = bytesFromMarker c raw := by
  simp only [bytesFromMarker, markerIndex_append_of_not_mem raw h, Nat.add_assoc, List.drop_length_add_append]

theorem markerFound_append_of_not_mem {g : List Byte} (raw : List Byte) (s : State) (h : (0xAA : Byte) ∉ g) :
    markerFound (g ++ raw) s = { markerFound raw s with start := g.length + (markerFound raw s).start } := by
  simp only [markerFound, markerIndex_append_of_not_mem raw h, Nat.add_assoc, List.drop_length_add_append]

theorem bytesFromMarker_of_plain {c : Config} (raw : List Byte) (h : c.rxUnstuff = false) :
    bytesFromMarker c raw = raw.drop (raw.findIdx (· == 0xAA)) := by
  simp [bytesFromMarker, h]

theorem markerFound_of_plain {s : State} (raw : List Byte) (h : s.cfg.rxUnstuff = false) :
    markerFound raw s = { s with start := raw.findIdx (· == 0xAA) } := by
  simp [markerFound, h]

@[simp] theorem markerFound_start (raw : List Byte) (s : State) :
    (markerFound raw s).start = raw.findIdx (· == 0xAA) := rfl

@[simp] theorem markerFound_finfoNow (raw : List Byte) (s : State) : (markerFound raw s).finfoNow = s.finfoNow := rfl

/-! ### DEC.B by case (43_frame_decode.md R175, R177, R180) -/

theorem exec_decB (raw : List Byte) (s : State) : exec (.decB raw) s = .next ((s.decB raw).settle .four) := rfl

theorem State.decB_of_not_mem {raw : List Byte} (s : State) (h : (0xAA : Byte) ∉ raw) :
    s.decB raw = .raised .malformedFrame s := by
  rw [State.decB, findStart_of_not_mem h]

/-- With a marker, DEC.B goes on from it, in the state finding it leaves. -/
theorem State.decB_of_mem {raw : List Byte} (s : State) (h : (0xAA : Byte) ∈ raw) :
    s.decB raw = (markerFound raw s).decBAt (bytesFromMarker s.cfg raw) := by
  have hmarked : s.marked raw (raw.findIdx (· == 0xAA)) = markerFound raw s := by
    rw [State.marked_eq, unstuffSerial_false, markerFound]
  have hbytes : responseB s.cfg raw (raw.findIdx (· == 0xAA)) = bytesFromMarker s.cfg raw := by
    simp [responseB, bytesFromMarker, slice, List.drop_take]
  rw [State.decB, findStart_of_mem h]
  simp only [hmarked, hbytes]

theorem State.decBAt_of_short {k : List Byte} {s : State} (h : k.length < needB s.cfg) :
    s.decBAt k = .raised .malformedFrame s := if_pos h

theorem needB_of_unverified {c : Config} (h : c.rxVerify = false) : needB c = 14 := by simp [needB, h]

theorem needB_of_verified {c : Config} (h : c.rxVerify = true) : needB c = 19 := if_pos h

theorem badSumB_of_verified {c : Config} (k : List Byte) (h : c.rxVerify = true) :
    badSumB c k = true ↔ k.getD 18 0 ≠ sum8 (slice k 2 18) := by
  rw [badSumB, h, Bool.true_and, bne_iff_ne, ne_comm]

theorem State.decBAt_of_unverified {k : List Byte} {s : State} (hverify : s.cfg.rxVerify = false)
    (hlen : 14 ≤ k.length) : s.decBAt k = .done (fieldsB k) s := by
  have hneed : ¬k.length < needB s.cfg := by rw [needB_of_unverified hverify]; omega
  simp [State.decBAt, hneed, badSumB, State.verifyRun, hverify]

theorem State.decBAt_of_verified {k : List Byte} {s : State} (hverify : s.cfg.rxVerify = true)
    (hlen : 19 ≤ k.length) (hsum : k.getD 18 0 = sum8 (slice k 2 18)) :
    s.decBAt k = .done (fieldsB k) { s with acc := sum8 (slice k 2 18) } := by
  have hneed : ¬k.length < needB s.cfg := by rw [needB_of_verified hverify]; omega
  have hgood : ¬badSumB s.cfg k = true := fun h => (badSumB_of_verified k hverify).mp h hsum
  rw [State.decBAt, if_neg hneed, if_neg hgood, State.verifyRun_eq, if_pos hverify]

theorem State.decBAt_of_mismatch {k : List Byte} {s : State} (hverify : s.cfg.rxVerify = true)
    (hlen : 19 ≤ k.length) (hsum : k.getD 18 0 ≠ sum8 (slice k 2 18)) :
    s.decBAt k = .raised .checksumMismatch { s with acc := sum8 (slice k 2 18) } := by
  have hneed : ¬k.length < needB s.cfg := by rw [needB_of_verified hverify]; omega
  rw [State.decBAt, if_neg hneed, if_pos ((badSumB_of_verified k hverify).mpr hsum), State.verifyRun_eq, if_pos hverify]

/-- DEC.B behind the marker does not write START. -/
theorem State.decBAt_settle_start (k : List Byte) (s : State) : ((s.decBAt k).settle .four).start = s.start := by
  rcases State.decBAt_cases k s with ⟨-, h⟩ | ⟨-, -, h⟩ | ⟨-, -, h⟩
  · rw [h]; rfl
  · rw [h, State.verifyRun_eq]; rfl
  · rw [h, State.verifyRun_eq]; rfl

/-- DEC.B behind the marker does not read START. -/
theorem State.decBAt_settle_withStart (k : List Byte) (s : State) (n : Nat) :
    ({ s with start := n }.decBAt k).settle .four = { (s.decBAt k).settle .four with start := n } := by
  simp only [State.decBAt, State.verifyRun_eq]
  split
  · rfl
  · split <;> rfl

theorem exec_decB_of_mem {raw : List Byte} (s : State) (h : (0xAA : Byte) ∈ raw) :
    exec (.decB raw) s = .next (((markerFound raw s).decBAt (bytesFromMarker s.cfg raw)).settle .four) := by
  rw [exec_decB, State.decB_of_mem s h]

/-- After DEC.B found a marker, START is its index, whatever the outcome (43_frame_decode.md R175). -/
theorem start_of_exec_decB {raw : List Byte} {s t : State} (h : (0xAA : Byte) ∈ raw)
    (hexec : exec (.decB raw) s = .next t) : t.start = raw.findIdx (· == 0xAA) := by
  rw [exec_decB_of_mem s h] at hexec
  injection hexec with ht
  rw [← ht, State.decBAt_settle_start, markerFound_start]

/-- DEC.B that does not verify answers the fields of any fourteen bytes from the marker on. -/
theorem exec_decB_of_unverified {raw : List Byte} {s : State} (h : (0xAA : Byte) ∈ raw)
    (hverify : s.cfg.rxVerify = false) (hlen : 14 ≤ (bytesFromMarker s.cfg raw).length) :
    exec (.decB raw) s = .next { markerFound raw s with res := .four (fieldsB (bytesFromMarker s.cfg raw)) } := by
  rw [exec_decB_of_mem s h, State.decBAt_of_unverified (s := markerFound raw s) hverify hlen, Ran.settle_done]

/-- DEC.B that verifies answers the fields, and the sum in ACC (log 16). -/
theorem exec_decB_of_verified {raw : List Byte} {s : State} (h : (0xAA : Byte) ∈ raw)
    (hverify : s.cfg.rxVerify = true) (hlen : 19 ≤ (bytesFromMarker s.cfg raw).length)
    (hsum : (bytesFromMarker s.cfg raw).getD 18 0 = sum8 (slice (bytesFromMarker s.cfg raw) 2 18)) :
    exec (.decB raw) s = .next { markerFound raw s with
      acc := sum8 (slice (bytesFromMarker s.cfg raw) 2 18)
      res := .four (fieldsB (bytesFromMarker s.cfg raw)) } := by
  rw [exec_decB_of_mem s h, State.decBAt_of_verified (s := markerFound raw s) hverify hlen hsum, Ran.settle_done]

/-- Settles O21: without a marker the fault; with one, a clause for each outcome of the bytes from it on. -/
theorem decodeBReadsFourFieldsFromTheMarker : Obligations.DecodeBReadsFourFieldsFromTheMarker := by
  intro raw s k u field sum fields
  have hsum : sum8 (slice k 2 18) = sum := sum8_eq_ofNat_sum _
  have hshort (hmem : (0xAA : Byte) ∈ raw) (h : k.length < needB s.cfg) :
      exec (.decB raw) s = .next (faulted 4 s.finfoNow u) := by
    rw [exec_decB_of_mem s hmem, State.decBAt_of_short (s := markerFound raw s) h, Ran.settle_raised, State.raise_eq,
      Cause.code, markerFound_finfoNow]
  refine ⟨?noMarker, ?unverified, ?unverifiedShort, ?verified, ?mismatch, ?verifiedShort⟩
  case noMarker =>
    intro hmem
    exact ⟨s.start, by rw [exec_decB, State.decB_of_not_mem s hmem, Ran.settle_raised, State.raise_eq, Cause.code]⟩
  case unverified =>
    intro hmem hverify hlen
    exact exec_decB_of_unverified hmem hverify hlen
  case unverifiedShort =>
    intro hmem hverify hlen
    exact hshort hmem (by rwa [needB_of_unverified hverify])
  case verified =>
    intro hmem hverify hlen hck
    rw [exec_decB_of_verified hmem hverify hlen (hck.trans hsum.symm), hsum]
    rfl
  case mismatch =>
    intro hmem hverify hlen hck
    rw [exec_decB_of_mem s hmem, State.decBAt_of_mismatch (s := markerFound raw s) hverify hlen (hsum ▸ hck), hsum]
    rfl
  case verifiedShort =>
    intro hmem hverify hlen
    exact hshort hmem (by rwa [needB_of_verified hverify])

/-! ### A stuffed response read back -/

/-- A wire frame begins with its marker (30_encoding.md R101). -/
theorem markerIndex_wireB (u tail : List Byte) : (wireB u ++ tail).findIdx (· == 0xAA) = 0 := rfl

/-- The bytes from the marker of a stuffed response on, unstuffed: the marker pair, the core, its sum, and whatever the
trailing bytes give (43_frame_decode.md R179). -/
theorem bytesFromMarker_wireB {c : Config} {core : List Byte} (tail : List Byte) (hunstuff : c.rxUnstuff = true)
    (hcore : core.length = 16) :
    bytesFromMarker c (wireB (unstuffedB core) ++ tail) =
      [0xAA, 0xAA] ++ core ++ (sum8 core :: (unstuff ([0x55, 0x55] ++ tail)).1) := by
  have hwire : wireB (unstuffedB core) ++ tail =
      [0xAA, 0xAA] ++ (stuff (core ++ [sum8 core]) ++ ([0x55, 0x55] ++ tail)) := by
    simp [wireB_unstuffedB hcore]
  have hk : bytesFromMarker c (wireB (unstuffedB core) ++ tail) =
      [0xAA, 0xAA] ++ (unstuff (stuff (core ++ [sum8 core]) ++ ([0x55, 0x55] ++ tail))).1 := by
    rw [bytesFromMarker, markerIndex_wireB, if_pos hunstuff, hwire]
    rfl
  rw [hk, unstuff_stuff_append]
  simp

/-- The checksum range of a response around a core is the core (43_frame_decode.md R180). -/
theorem slice_core {core : List Byte} (rest : List Byte) (h : core.length = 16) :
    slice ([0xAA, 0xAA] ++ core ++ rest) 2 18 = core :=
  slice_append_middle _ _ _ rfl (by simp [h])

/-- The byte behind the core is the one DEC.B checks (43_frame_decode.md R180). -/
theorem getD_behind_core {core : List Byte} (ck : Byte) (rest : List Byte) (h : core.length = 16) :
    ([0xAA, 0xAA] ++ core ++ (ck :: rest)).getD 18 0 = ck := by
  have hlen : ([0xAA, 0xAA] ++ core).length = 18 := by simp [h]
  rw [List.getD_append_right _ _ _ _ hlen.le, hlen]
  rfl

/-- DEC.B gives back the values a core carries (30_encoding.md R96, 43_frame_decode.md R175). -/
theorem fieldsB_coreB (w : Bool) (addr v0 v1 v2 v3 : Half) (d : Byte) (tail : List Byte) :
    fieldsB ([0xAA, 0xAA] ++ coreB w addr (le16s [v0, v1, v2, v3]) d ++ tail) = ⟨v0, v1, v2, v3⟩ := by
  have hsplit : [0xAA, 0xAA] ++ coreB w addr (le16s [v0, v1, v2, v3]) d ++ tail =
      ([0xAA, 0xAA] ++ le32 (ident w addr)) ++ le16s [v0, v1, v2, v3] ++ ([d, 0x00, 0x01, 0x00] ++ tail) := by
    simp [coreB]
  rw [hsplit, fieldsB_window _ rfl rfl]
  simp [fieldAt]

/-- Settles O22: the unstuffer restores the frame, whose sum is right and whose window holds the values. -/
theorem decodeBWithUnstuffReturnsTheStuffedValues : Obligations.DecodeBWithUnstuffReturnsTheStuffedValues := by
  intro g tail addr v0 v1 v2 v3 s hunstuff hg
  generalize hraw : peerResponseB g addr v0 v1 v2 v3 ++ tail = raw
  generalize hcore : coreB false addr (le16s [v0, v1, v2, v3]) 8 = core
  have hlen : core.length = 16 := hcore ▸ coreB_length false addr 8 rfl
  have hwire : raw = g ++ (wireB (unstuffedB core) ++ tail) := by rw [← hraw, ← hcore, peerResponseB, List.append_assoc]
  have hindex : raw.findIdx (· == 0xAA) = g.length := by
    rw [hwire, markerIndex_append_of_not_mem _ hg, markerIndex_wireB, Nat.add_zero]
  have hmem : (0xAA : Byte) ∈ raw := by
    rw [← markerIndex_lt_iff, hindex, hwire]
    simp [wireB]
  have hk : bytesFromMarker s.cfg raw = [0xAA, 0xAA] ++ core ++ (sum8 core :: (unstuff ([0x55, 0x55] ++ tail)).1) := by
    rw [hwire, bytesFromMarker_append_of_not_mem s.cfg _ hg, bytesFromMarker_wireB tail hunstuff hlen]
  have hfields : fieldsB (bytesFromMarker s.cfg raw) = ⟨v0, v1, v2, v3⟩ := by rw [hk, ← hcore, fieldsB_coreB]
  have hklen : 19 ≤ (bytesFromMarker s.cfg raw).length := by simp [hk, hlen]; omega
  have hsum : (bytesFromMarker s.cfg raw).getD 18 0 = sum8 (slice (bytesFromMarker s.cfg raw) 2 18) := by
    rw [hk, slice_core _ hlen, getD_behind_core _ _ hlen]
  cases hverify : s.cfg.rxVerify with
  | false => exact ⟨_, _, exec_decB_of_unverified hmem hverify (by omega), rfl, hfields, hindex, rfl⟩
  | true => exact ⟨_, _, exec_decB_of_verified hmem hverify hklen hsum, rfl, hfields, hindex, rfl⟩

/-! ### Resynchronisation (43_frame_decode.md R181) -/

/-- Settles O23: DEC.B goes on from the same bytes behind garbage without a marker, and does not read START; a marker in
the garbage is the first, and any fourteen bytes from it on are fields. -/
theorem resynchronisationSkipsGarbage : Obligations.ResynchronisationSkipsGarbage := by
  refine ⟨?withoutMarker, ?withMarker⟩
  case withoutMarker =>
    intro g raw s t hg hmem hexec
    rw [exec_decB_of_mem s hmem] at hexec
    injection hexec with ht
    have hstart : t.start = (markerFound raw s).start := by rw [← ht, State.decBAt_settle_start]
    rw [exec_decB_of_mem s (List.mem_append_right g hmem), bytesFromMarker_append_of_not_mem _ _ hg,
      markerFound_append_of_not_mem _ _ hg, State.decBAt_settle_withStart, ht, hstart, Nat.add_comm g.length]
  case withMarker =>
    intro g raw s t hg hexec
    have hmem : (0xAA : Byte) ∈ g ++ raw := List.mem_append_left raw hg
    have hstart : t.start = (g ++ raw).findIdx (· == 0xAA) := start_of_exec_decB hmem hexec
    refine ⟨?within, fun hverify hunstuff hlen => ?noFault⟩
    case within =>
      rw [hstart, markerIndex_append_of_mem raw hg, markerIndex_lt_iff]
      exact hg
    case noFault =>
      have hk : 14 ≤ (bytesFromMarker s.cfg (g ++ raw)).length := by
        rw [bytesFromMarker_of_plain _ hunstuff, ← hstart, List.length_drop]
        omega
      rw [exec_decB_of_unverified hmem hverify hk] at hexec
      injection hexec with ht
      exact ht ▸ ⟨rfl, rfl⟩

/-! ### What the decoders do not inspect (43_frame_decode.md R172, R178) -/

/-- Without verification and unstuffing, DEC.B answers the fields of the window behind the first marker. -/
theorem exec_decB_of_window {g m w : List Byte} (tail : List Byte) {s : State} (hverify : s.cfg.rxVerify = false)
    (hunstuff : s.cfg.rxUnstuff = false) (hg : (0xAA : Byte) ∉ g) (hm : m.length = 5) (hw : w.length = 8) :
    exec (.decB (g ++ [0xAA] ++ m ++ w ++ tail)) s =
      .next { s with
        start := g.length
        res := .four ⟨fieldAt w 0, fieldAt w 2, fieldAt w 4, fieldAt w 6⟩ } := by
  have hraw : g ++ [0xAA] ++ m ++ w ++ tail = g ++ (0xAA :: m ++ w ++ tail) := by simp
  have hindex : (g ++ (0xAA :: m ++ w ++ tail)).findIdx (· == 0xAA) = g.length := by
    rw [markerIndex_append_of_not_mem _ hg]
    exact Nat.add_zero _
  have hk : bytesFromMarker s.cfg (g ++ (0xAA :: m ++ w ++ tail)) = 0xAA :: m ++ w ++ tail := by
    rw [bytesFromMarker_of_plain _ hunstuff, hindex, List.drop_left]
  have hlen : 14 ≤ (bytesFromMarker s.cfg (g ++ (0xAA :: m ++ w ++ tail))).length := by
    rw [hk]
    simp [hm, hw]
    omega
  rw [hraw, exec_decB_of_unverified (by simp) hverify hlen, markerFound_of_plain _ hunstuff, hindex, hk,
    fieldsB_window tail (by simp [hm]) hw]

/-- Settles O24: DEC.A answers bytes 7 to 18, DEC.B the window behind the first marker, and neither writes anything that
another byte decides. -/
theorem decodersDoNotInspectTheOtherBytes : Obligations.DecodersDoNotInspectTheOtherBytes := by
  refine ⟨?variantA, ?variantB⟩
  case variantA =>
    intro raw raw' s hverify hlen hlen' hagree
    rw [exec_decA, State.decA_of_unverified hverify hlen, exec_decA, State.decA_of_unverified hverify hlen',
      fieldsA_congr hagree]
  case variantB =>
    intro g m m' w tail tail' s hverify hunstuff hg hm hm' hw
    rw [exec_decB_of_window tail hverify hunstuff hg hm hw, exec_decB_of_window tail' hverify hunstuff hg hm' hw]

/-! ### The sanitisers (43_frame_decode.md R184, R185) -/

theorem exec_sanClamp (u : Half) (s : State) : exec (.sanClamp u) s = .next { s with res := .value (sanClamp u) } := rfl

theorem exec_sanSigned (u : Half) (s : State) :
    exec (.sanSigned u) s = .next { s with res := .value (sanSigned u) } := rfl

theorem sanClamp_of_gt {u : Half} (h : 6000 < u.toNat) : sanClamp u = 0 := if_pos h

theorem sanClamp_of_le {u : Half} (h : u.toNat ≤ 6000) : sanClamp u = u.toNat := if_neg (Nat.not_lt.mpr h)

theorem sanSigned_of_gt {u : Half} (h : 32768 < u.toNat) : sanSigned u = u.toNat - 65536 := if_pos h

theorem sanSigned_of_le {u : Half} (h : u.toNat ≤ 32768) : sanSigned u = u.toNat := if_neg (Nat.not_lt.mpr h)

theorem sanClamp_range (u : Half) : 0 ≤ sanClamp u ∧ sanClamp u ≤ 6000 := by
  rcases Nat.lt_or_ge 6000 u.toNat with h | h
  · rw [sanClamp_of_gt h]; omega
  · rw [sanClamp_of_le h]; omega

/-- The strict comparison of R185 and the two's-complement one part at 32768, which the first leaves positive. -/
theorem sanSigned_eq_toInt_iff (u : Half) : sanSigned u = u.toInt ↔ u.toNat ≠ 32768 := by
  rw [BitVec.toInt_eq_toNat_cond]
  rcases Nat.lt_or_ge 32768 u.toNat with h | h
  · rw [sanSigned_of_gt h, if_neg (by omega)]
    simp only [Nat.reducePow, Nat.cast_ofNat, true_iff]
    omega
  · rw [sanSigned_of_le h]
    split <;> omega

/-- Settles O25: the two cases of the clamp, and its range. -/
theorem clampAbove6000IsZero : Obligations.ClampAbove6000IsZero := by
  intro u s
  obtain ⟨hmin, hmax⟩ := sanClamp_range u
  exact ⟨sanClamp u, exec_sanClamp u s, hmin, hmax, sanClamp_of_gt, sanClamp_of_le, rfl⟩

/-- Settles O26: the two cases of the conversion, its range, and where it parts from two's complement. -/
theorem signedConversionDiffersFromTwosComplementAt32768Only :
    Obligations.SignedConversionDiffersFromTwosComplementAt32768Only := by
  intro u s
  obtain ⟨hmin, hmax⟩ := sanitize_range .signed u
  exact ⟨sanSigned u, exec_sanSigned u s, hmin, hmax, sanSigned_of_gt, sanSigned_of_le, sanSigned_eq_toInt_iff u, rfl⟩

end Sys2Proof.Machine
end

section
/-! PROOFS. The statements of 44_byte_stuffer.md: what STUFF inserts and how long its output gets, the byte-serial
UNSTUFF, each undoing the other, and which byte sequences STUFF produces. -/

namespace Sys2Proof

/-! ### The length of a stuffed sequence -/

/-- Each reserved byte costs one escape byte (44_byte_stuffer.md R203). -/
theorem stuff_length (b : List Byte) : (stuff b).length = b.length + b.countP isReserved := by
  induction b with
  | nil => rfl
  | cons x b ih =>
    cases h : isReserved x with
    | true =>
      simp only [stuff_reserved x b h, List.countP_cons_of_pos h, List.length_cons, ih]
      omega
    | false =>
      simp only [stuff_plain x b h, List.countP_cons_of_neg (ne_true_of_eq_false h), List.length_cons, ih]
      omega

theorem isReserved_eq_decide_mem : isReserved = fun x : Byte => decide (x ∈ [0xAA, 0x55, 0xA5]) := by
  funext x
  rw [Bool.eq_iff_iff, isReserved_iff_mem, decide_eq_true_iff]

/-! ### Unstuffing what was stuffed -/

theorem unstuff_stuff (b : List Byte) : unstuff (stuff b) = (b, false) := by
  simpa [unstuff] using unstuff_stuff_append b []

/-- Stuffing gives back exactly what STUFF can have produced (44_byte_stuffer.md R208). -/
theorem stuff_unstuff_iff (c : List Byte) : stuff (unstuff c).1 = c ↔ ∃ b, stuff b = c := by
  refine ⟨fun h => ⟨_, h⟩, ?image⟩
  case image =>
    rintro ⟨b, rfl⟩
    rw [unstuff_stuff]

end Sys2Proof

namespace Sys2Proof.Machine

/-! ### STUFF and UNSTUFF issued directly -/

theorem exec_stuff (b : List Byte) (s : State) : exec (.stuff b) s = .next { s with res := .bytes (stuff b) } := rfl

/-- UNSTUFF issued directly answers the pair of R205 and leaves `dangling` in ESCP (44_byte_stuffer.md R206). -/
theorem exec_unstuff (b : List Byte) (s : State) :
    exec (.unstuff b) s = .next { s with escp := (unstuff b).2, res := .unstuffed (unstuff b).1 (unstuff b).2 } := by
  rw [← unstuffSerial_false]
  rfl

theorem unstuffByte_pending (x : Byte) : unstuffByte true x = (false, [x]) := rfl

theorem unstuffByte_esc : unstuffByte false esc = (true, []) := rfl

theorem unstuffByte_plain {x : Byte} (h : x ≠ esc) : unstuffByte false x = (false, [x]) := if_neg h

/-- Settles O10: STUFF byte by byte, and its length counted over the reserved bytes. -/
theorem stuffEscapesEachReservedByte : Obligations.StuffEscapesEachReservedByte := by
  intro b s
  refine ⟨?written, ?length⟩
  case written => rw [exec_stuff, stuff_eq_flatMap]
  case length => rw [stuff_length, isReserved_eq_decide_mem]

/-- Settles O11: the byte machine's cases, the equations of UNSTUFF, and the run from ESCP = 0 that joins them. -/
theorem serialUnstufferComputesUnstuff : Obligations.SerialUnstufferComputesUnstuff :=
  ⟨fun b s => ⟨exec_unstuff b s, unstuffSerial_false b, rfl⟩,
    unstuffByte_pending, unstuffByte_esc, fun _ => unstuffByte_plain,
    fun _ _ _ => rfl, fun _ => rfl,
    rfl, rfl, unstuff_escaped, fun _ rest => unstuff_plain rest⟩

/-- Settles O12: the round trip, and the converse on what STUFF produces; A5 00 lies outside it. -/
theorem unstuffInvertsStuff : Obligations.UnstuffInvertsStuff := by
  refine ⟨unstuff_stuff, fun b s => ?exec, stuff_unstuff_iff, rfl, rfl⟩
  case exec => rw [exec_unstuff, unstuff_stuff]

/-! ### What STUFF produces -/

theorem parsesEscaped_plain {x : Byte} (b : List Byte) (h : isReserved x = false) :
    parsesEscaped (x :: b) = parsesEscaped b := by
  cases b with
  | nil => simp [parsesEscaped, h]
  | cons y b => simp [parsesEscaped, h, ne_esc_of_not_reserved x h]

theorem parsesEscaped_escaped {y : Byte} (b : List Byte) (h : isReserved y = true) :
    parsesEscaped (esc :: y :: b) = parsesEscaped b := by
  simp [parsesEscaped, h]

theorem parsesEscaped_stuff (b : List Byte) : parsesEscaped (stuff b) = true := by
  induction b with
  | nil => rfl
  | cons x b ih =>
    cases h : isReserved x with
    | true => rw [stuff_reserved x b h, parsesEscaped_escaped _ h, ih]
    | false => rw [stuff_plain x b h, parsesEscaped_plain _ h, ih]

/-- What parses was stuffed: a plain byte comes from itself, an escape pair from its second byte
(44_byte_stuffer.md R207). -/
theorem exists_stuff_of_parsesEscaped {c : List Byte} (h : parsesEscaped c = true) : ∃ b, stuff b = c := by
  induction c using parsesEscaped.induct with
  | case1 => exact ⟨[], rfl⟩
  | case2 x =>
    have hx : isReserved x = false := by simpa [parsesEscaped] using h
    exact ⟨[x], stuff_plain x [] hx⟩
  | case3 y rest ih =>
    obtain ⟨hy, hrest⟩ : isReserved y = true ∧ parsesEscaped rest = true := by simpa [parsesEscaped] using h
    obtain ⟨b, rfl⟩ := ih hrest
    exact ⟨y :: b, stuff_reserved y b hy⟩
  | case4 x y rest hplain ih =>
    obtain ⟨hx, hrest⟩ : isReserved x = false ∧ parsesEscaped (y :: rest) = true := by
      simpa [parsesEscaped, hplain] using h
    obtain ⟨b, hb⟩ := ih hrest
    exact ⟨x :: b, by rw [stuff_plain x b hx, hb]⟩

theorem parsesEscaped_iff (c : List Byte) : parsesEscaped c = true ↔ ∃ b, stuff b = c := by
  refine ⟨exists_stuff_of_parsesEscaped, ?image⟩
  case image =>
    rintro ⟨b, rfl⟩
    exact parsesEscaped_stuff b

/-- Settles O13: the image of STUFF by its parse; a built frame's region is the stuffed core and sum. -/
theorem stuffedRegionHasNoUnescapedReservedByte : Obligations.StuffedRegionHasNoUnescapedReservedByte :=
  ⟨parsesEscaped_iff, fun w addr _ d hwindow =>
    ⟨_, wireB_unstuffedB (coreB_length w addr d hwindow), parsesEscaped_stuff _⟩⟩

/-! ### The escapes of a built frame -/

/-- Of the identifier's bytes only `id2` can be reserved (30_encoding.md R99). -/
theorem countP_isReserved_ident_le (w : Bool) (addr : Half) : (le32 (ident w addr)).countP isReserved ≤ 1 := by
  have hid3 : isReserved (BitVec.ofNat 8 (identHigh w addr / 1024)) = false :=
    isReserved_of_lt (by have := identHigh_le w addr; omega)
  have hid0 : isReserved 0xFF = false := by decide
  rw [le32_ident]
  simp only [List.countP_cons, List.countP_nil, hid0, isReserved_id1, hid3, Bool.false_eq_true, if_false]
  split <;> omega

/-- Of the core only `id2` and the window's eight bytes can be reserved (30_encoding.md R96, R99). -/
theorem countP_isReserved_coreB_le (w : Bool) (addr : Half) {window : List Byte} {d : Byte} (hw : window.length = 8)
    (hd : isReserved d = false) : (coreB w addr window d).countP isReserved ≤ 9 := by
  have hident := countP_isReserved_ident_le w addr
  have hwindow : window.countP isReserved ≤ 8 := hw ▸ List.countP_le_length
  have hext : ([0x00, 0x01, 0x00] : List Byte).countP isReserved = 0 := by decide
  simp only [coreB, List.countP_append, hext, List.countP_singleton, hd, Bool.false_eq_true, if_false]
  omega

/-- The core and its sum are seventeen bytes, ten of which at most are escaped (44_byte_stuffer.md R203). -/
theorem wireB_length_bounds (w : Bool) (addr : Half) {window : List Byte} {d : Byte} (hw : window.length = 8)
    (hd : isReserved d = false) :
    21 ≤ (wireB (unstuffedB (coreB w addr window d))).length ∧
      (wireB (unstuffedB (coreB w addr window d))).length ≤ 31 := by
  have hlen := coreB_length w addr d hw
  have hcore := countP_isReserved_coreB_le w addr hw hd
  have hsum : [sum8 (coreB w addr window d)].countP isReserved ≤ 1 := List.countP_le_length
  rw [wireB_unstuffedB hlen]
  simp only [List.length_append, stuff_length, List.countP_append, List.length_cons, List.length_nil, hlen]
  omega

/-- B_BUILD issued directly leaves 21 to 31 bytes in TXBUF (42_frame_encode.md R153). -/
theorem State.buildB_settle_txlen (w : Bool) (addr : Half) {window : List Byte} {d : Byte} (s : State)
    (hw : window.length = 8) (hd : isReserved d = false) :
    21 ≤ ((s.buildB w addr window d).settle .bytes).txlen ∧ ((s.buildB w addr window d).settle .bytes).txlen ≤ 31 := by
  rw [State.buildB_settle]
  exact wireB_length_bounds w addr hw hd

theorem isReserved_readDataLen (form : BReadForm) : isReserved (readDataLen form) = false := by
  cases form <;> rfl

/-- Settles O19: both encoders run B_BUILD on an eight-byte window and a length byte below every reserved value. -/
theorem builtFramesHaveAtMostTenEscapes : Obligations.BuiltFramesHaveAtMostTenEscapes := by
  refine ⟨fun addr vals s hfits => ?write, fun addr c s => ?read⟩
  case write =>
    have hlen : isReserved (BitVec.ofNat 8 (2 * vals.length)) = false := isReserved_of_lt (by omega)
    exact ⟨_, exec_encBWr_of_fits addr s hfits, State.buildB_settle_txlen true addr s (writeWindow_length hfits) hlen⟩
  case read =>
    exact ⟨_, exec_encBRd addr c s,
      State.buildB_settle_txlen false addr s (readWindow_length _ c) (isReserved_readDataLen _)⟩

end Sys2Proof.Machine
end

section
/-! PROOFS. The statements of 45_register_access.md: acceptance, the sequencer phase by phase, what writes the results,
and whole transactions. -/

namespace Sys2Proof.Machine

/-! ### The step with nothing presented -/

theorem step_of_no_input {s : State} (h : s.inputs = []) : step s = .next s.advance := by
  rw [step, h]
  rfl

theorem State.advance_of_idle {s : State} (h : s.seq = .idle) : s.advance = s := by
  rw [State.advance, h]

/-- Settles O2: both ways of presenting nothing advance the sequencer, which rests in IDLE. -/
theorem sequencerStepsWhenNothingIsPresented : Obligations.SequencerStepsWhenNothingIsPresented :=
  ⟨fun _ => step_of_no_input, fun _ _ => step_of_input, fun _ => State.advance_of_idle⟩

/-! ### Acceptance of a WRREG or RDREG -/

/-- The state in which an accepted command for the register `e` begins its first exchange (45_register_access.md R223,
R230, R236). -/
def begun (c : Command) (e : RegEntry) (s : State) : State :=
  { accepted c s with
    addr := e.base
    cls := e.cls
    nsb := exchangeCount s.cfg.variant c.count.toNat
    seq := .build }

@[simp] theorem begun_outs (c : Command) (e : RegEntry) (s : State) : (begun c e s).outs = s.outs := rfl

theorem countOk_iff (n : BitVec 4) : countOk n = true ↔ 1 ≤ n.toNat ∧ n.toNat ≤ 6 := by
  simp [countOk]

theorem exchangeCount_eq_ite (v : Variant) (n : Nat) : exchangeCount v n = if v = .B ∧ 4 < n then 2 else 1 := by
  cases v with
  | A => rfl
  | B => rcases Nat.lt_or_ge 4 n with h | h <;> simp [exchangeCount, h]

theorem exchangeCount_of_split {n : Nat} (h : 5 ≤ n) : exchangeCount .B n = 2 := if_neg (by omega)

theorem exchangeCount_le (v : Variant) (n : Nat) : (exchangeCount v n).toNat ≤ 2 := by
  rcases exchangeCount_range v n with h | h <;> rw [h] <;> decide

theorem State.registerCommand_of_known {c : Command} {s : State} {e : RegEntry} (hidle : s.busy = false)
    (hmin : 1 ≤ c.count.toNat) (hmax : c.count.toNat ≤ 6)
    (hentry : s.cfg.regmap.find? (fun e => e.name == c.name) = some e) : s.registerCommand c = begun c e s := by
  have hcount : countOk c.count = true := (countOk_iff _).mpr ⟨hmin, hmax⟩
  rw [← findEntry_eq_find] at hentry
  rcases State.registerCommand_cases c s with ⟨hb, -⟩ | ⟨-, hc, -⟩ | ⟨-, -, hn, -⟩ | ⟨e', -, -, he, h⟩
  · simp [hidle] at hb
  · simp [hcount] at hc
  · simp [hentry] at hn
  · obtain rfl : e = e' := Option.some.inj (hentry.symm.trans he)
    exact h

theorem State.registerCommand_of_badCount {c : Command} {s : State} (hidle : s.busy = false)
    (hcount : c.count.toNat = 0 ∨ 6 < c.count.toNat) : s.registerCommand c = faulted 5 0 (accepted c s) := by
  have hbad : countOk c.count ≠ true := by rw [Ne, countOk_iff]; omega
  rcases State.registerCommand_cases c s with ⟨hb, -⟩ | ⟨-, -, h⟩ | ⟨-, hc, -⟩ | ⟨_, -, hc, -⟩
  · simp [hidle] at hb
  · exact h
  · exact absurd hc hbad
  · exact absurd hc hbad

/-- Settles O30: either command is `registerCommand` of its record, which begins when the name is known. -/
theorem registerCommandsBegin : Obligations.RegisterCommandsBegin := by
  intro name dev count values s e hidle hmin hmax hentry begins
  have hbegun (op : Byte) : begun ⟨op, name, dev, count, values⟩ e s = begins op := by
    simp only [begun, exchangeCount_eq_ite]
    rfl
  have hcommand (op : Byte) : s.registerCommand ⟨op, name, dev, count, values⟩ = begins op :=
    (State.registerCommand_of_known hidle hmin hmax hentry).trans (hbegun op)
  exact ⟨congrArg _ (hcommand 0x01), congrArg _ (hcommand 0x02)⟩

/-- Settles O31: either command is `registerCommand` of its record, which does not look the name up. -/
theorem badCountEndsTheCommandBeforeLookup : Obligations.BadCountEndsTheCommandBeforeLookup := by
  intro name dev count values s hidle hcount
  have hcommand (op : Byte) := State.registerCommand_of_badCount (c := ⟨op, name, dev, count, values⟩) hidle hcount
  exact ⟨congrArg _ (hcommand 0x01), congrArg _ (hcommand 0x02)⟩

/-! ### BUILD: the request frame of the exchange in progress -/

theorem State.exchangeAddr_eq (s : State) : s.exchangeAddr = if s.sb = 0 then s.addr else s.addr + 8 := by
  rw [State.exchangeAddr]
  congr 1
  simp [← BitVec.toNat_inj]

theorem State.suppliedValues_length_le (s : State) : s.suppliedValues.length ≤ 6 := by
  have hsix : s.wv.toList.length = 6 := rfl
  rw [State.suppliedValues, List.length_take, hsix]
  omega

/-- The bytes of the request in progress that its checksum covers (40_checksum.md R133, R134). -/
def State.requestRange (s : State) : List Byte :=
  match s.cfg.variant with
  | .A =>
    if s.op = opRdreg then bodyARd s.cfg s.devid s.exchangeAddr
    else bodyAWr s.devid s.exchangeAddr s.suppliedValues
  | .B => s.requestCoreB

/-- The request frame of the exchange in progress (45_register_access.md R226, R227, R237). -/
def State.requestFrame (s : State) : List Byte :=
  match s.cfg.variant with
  | .A => frameA s.requestRange
  | .B => wireB (unstuffedB s.requestRange)

/-- The values of an exchange always fit its frame, so the sequencer's encoder never raises BadCount. -/
theorem State.encodeRequest_eq (s : State) :
    s.encodeRequest = .done s.requestFrame { s with txbuf := s.requestFrame, acc := sum8 s.requestRange } := by
  unfold State.encodeRequest State.requestFrame State.requestRange State.requestCoreB
  by_cases hread : s.op = opRdreg
  · cases hvariant : s.cfg.variant with
    | A => simp only [if_pos hread, State.encARd_eq]
    | B => simp only [if_pos hread, State.encBRd, State.buildB_eq]
  · cases hvariant : s.cfg.variant with
    | A => simp only [if_neg hread, State.encAWr_eq, if_neg (Nat.not_lt.mpr s.suppliedValues_length_le)]
    | B => simp only [if_neg hread, State.encBWr, if_neg (Nat.not_lt.mpr s.subBlockValues_length_le), State.buildB_eq]

theorem State.stepBuild_eq (s : State) :
    s.stepBuild = { s with txbuf := s.requestFrame, acc := sum8 s.requestRange, seq := .send } := by
  rw [State.stepBuild, State.encodeRequest_eq]

/-- The two register commands are told apart by OP (30_encoding.md R109). -/
theorem ne_opRdreg {op : Byte} (h : op = 0x01) : op ≠ opRdreg := by
  rw [h]
  decide

/-- BUILD writes what the ENC operation of the exchange writes when it is issued directly. -/
theorem State.build_runs_exec {s : State} {i : Instr} (hbuild : s.seq = .build)
    (hexec : exec i s = .next (s.encodeRequest.settle .bytes)) :
    ∃ frame ck, exec i s = .next { s with txbuf := frame, acc := ck, res := .bytes frame } ∧
      s.advance = { s with txbuf := frame, acc := ck, seq := .send } := by
  refine ⟨s.requestFrame, sum8 s.requestRange, ?_, ?_⟩
  · rw [hexec, State.encodeRequest_eq, Ran.settle_done]
  · rw [State.advance_of_build hbuild, State.stepBuild_eq]

theorem State.encodeRequest_of_writeA {s : State} (hop : s.op = 0x01) (hvariant : s.cfg.variant = .A) :
    s.encodeRequest = s.encAWr s.devid s.exchangeAddr s.suppliedValues := by
  rw [State.encodeRequest, if_neg (ne_opRdreg hop), hvariant]

theorem State.encodeRequest_of_writeB {s : State} (hop : s.op = 0x01) (hvariant : s.cfg.variant = .B) :
    s.encodeRequest = s.encBWr s.exchangeAddr s.subBlockValues := by
  rw [State.encodeRequest, if_neg (ne_opRdreg hop), hvariant]

theorem State.encodeRequest_of_readA {s : State} (hop : s.op = 0x02) (hvariant : s.cfg.variant = .A) :
    s.encodeRequest = s.encARd s.devid s.exchangeAddr := by
  rw [State.encodeRequest, if_pos (show s.op = opRdreg from hop), hvariant]

theorem State.encodeRequest_of_readB {s : State} (hop : s.op = 0x02) (hvariant : s.cfg.variant = .B) :
    s.encodeRequest = s.encBRd s.exchangeAddr s.requestedValues := by
  rw [State.encodeRequest, if_pos (show s.op = opRdreg from hop), hvariant]

/-- The operands of the first exchange (20_memory.md R63, 45_register_access.md R222, R237). -/
theorem State.operands_of_first {s : State} (h : s.sb = 0) :
    s.exchangeAddr = s.addr ∧ s.subBlockValues = s.suppliedValues.take 4 ∧ s.requestedValues = 4 :=
  ⟨if_pos h, if_pos h, if_pos h⟩

/-- The operands of the second exchange (20_memory.md R63, 45_register_access.md R222, R237). -/
theorem State.operands_of_second {s : State} (h : s.sb = 1) :
    s.exchangeAddr = s.addr + 8 ∧ s.subBlockValues = s.suppliedValues.drop 4 ∧ s.requestedValues = 2 := by
  have hsecond : s.sb ≠ 0 := by simp [h]
  exact ⟨s.exchangeAddr_eq.trans (if_neg hsecond), if_neg hsecond, if_neg hsecond⟩

/-- Settles O37: one clause for each ENC operation and exchange, with the operands of its sub-block. -/
theorem buildPhaseRunsTheEncoder : Obligations.BuildPhaseRunsTheEncoder := by
  intro s hbuild _ vals addr builds
  have haddr : s.exchangeAddr = addr := s.exchangeAddr_eq
  have hbuilds (i : Instr) : exec i s = .next (s.encodeRequest.settle .bytes) → builds i := State.build_runs_exec hbuild
  refine ⟨?writeA, ?writeB1, ?writeB2, ?readA, ?readB1, ?readB2⟩
  case writeA =>
    intro hop hvariant
    exact hbuilds _ (by rw [State.encodeRequest_of_writeA hop hvariant, haddr]; rfl)
  case writeB1 =>
    intro hop hvariant hsb
    obtain ⟨hbase, hvals, -⟩ := State.operands_of_first hsb
    exact hbuilds _ (by rw [State.encodeRequest_of_writeB hop hvariant, hbase, hvals]; rfl)
  case writeB2 =>
    intro hop hvariant hsb
    obtain ⟨hnext, hvals, -⟩ := State.operands_of_second hsb
    exact hbuilds _ (by rw [State.encodeRequest_of_writeB hop hvariant, hnext, hvals]; rfl)
  case readA =>
    intro hop hvariant
    exact hbuilds _ (by rw [State.encodeRequest_of_readA hop hvariant, haddr]; rfl)
  case readB1 =>
    intro hop hvariant hsb
    obtain ⟨hbase, -, hcount⟩ := State.operands_of_first hsb
    exact hbuilds _ (by rw [State.encodeRequest_of_readB hop hvariant, hbase, hcount]; rfl)
  case readB2 =>
    intro hop hvariant hsb
    obtain ⟨hnext, -, hcount⟩ := State.operands_of_second hsb
    exact hbuilds _ (by rw [State.encodeRequest_of_readB hop hvariant, hnext, hcount]; rfl)

/-! ### FINFO inside a transaction (60_exceptions.md R290) -/

theorem State.finfoNow_of_send {s : State} (hbusy : s.busy = true) (hseq : s.seq = .send) :
    s.finfoNow = if s.sb = 0 then 0 else 3 := by
  rw [State.finfoNow, State.sendReturnedOk, hbusy, hseq]
  rcases BitVec.eq_zero_or_eq_one s.sb with h | h <;> rw [h] <;> rfl

theorem State.finfoNow_of_wait {s : State} (hbusy : s.busy = true) (hseq : s.seq = .wait) :
    s.finfoNow = if s.sb = 0 then 2 else 3 := by
  rw [State.finfoNow, State.sendReturnedOk, hbusy, hseq]
  rcases BitVec.eq_zero_or_eq_one s.sb with h | h <;> rw [h] <;> rfl

/-! ### SEND -/

theorem State.advance_of_send {s : State} (h : s.seq = .send) : s.advance = s.stepSend := by
  rw [State.advance, h]

theorem State.stepSend_of_ok {s : State} {rest : List SendAnswer} (h : s.sendAns = .ok :: rest) :
    s.stepSend =
      { s with sendAns := rest, outs := s.outs ++ [.sent s.txbuf .ok], tries := 0, seq := .wait } := by
  simp only [State.stepSend, State.sendFrame, State.sendAnswer, State.afterSendAnswer, h]
  rfl

theorem State.stepSend_of_failure {s : State} {rest : List SendAnswer} (h : s.sendAns = .failure :: rest) :
    s.stepSend =
      State.raise .transportError { s with sendAns := rest, outs := s.outs ++ [.sent s.txbuf .failure] } := by
  simp only [State.stepSend, State.sendFrame, State.sendAnswer, State.afterSendAnswer, h]
  rfl

/-- Settles O39: the two answers of the transport; the fault entry reads the sub-block. -/
theorem sendPhaseSendsOnce : Obligations.SendPhaseSendsOnce := by
  intro s rest hseq hbusy
  rw [State.advance_of_send hseq]
  refine ⟨State.stepSend_of_ok, fun hans => ?failure⟩
  case failure =>
    rw [State.stepSend_of_failure hans, State.raise_eq, ← State.finfoNow_of_send hbusy hseq]
    rfl

/-! ### WAIT -/

theorem State.advance_of_wait {s : State} (h : s.seq = .wait) : s.advance = s.stepWait := by
  rw [State.advance, h]

/-- The state after a receive attempt that the transport answered with `a`, `rest` being its further answers
(46_transport_wait.md R261, R263). -/
def State.received (a : RecvAnswer) (rest : List RecvAnswer) (s : State) : State :=
  { s with recvAns := rest, rxbuf := answerBytes a, outs := s.outs ++ [.received a] }

@[simp] theorem State.received_cfg (a : RecvAnswer) (rest : List RecvAnswer) (s : State) :
    (s.received a rest).cfg = s.cfg := rfl

@[simp] theorem State.received_outs (a : RecvAnswer) (rest : List RecvAnswer) (s : State) :
    (s.received a rest).outs = s.outs ++ [.received a] := rfl

theorem State.recvAnswer_of_scripted {s : State} {a : RecvAnswer} {rest : List RecvAnswer}
    (hans : s.recvAns = a :: rest) (hfits : (answerBytes a).length ≤ s.cfg.rxCap) :
    s.recvAnswer s.cfg.rxCap = a := by
  simp only [State.recvAnswer, hans]
  cases a with
  | bytes b =>
    have hlimit : b.length ≤ s.recvLimit s.cfg.rxCap := by
      rw [State.recvLimit]
      exact Nat.le_min.mpr ⟨hfits, hfits⟩
    rw [capAnswer, List.take_of_length_le hlimit]
  | timeout => rfl
  | failure => rfl

theorem State.afterReceive_of_scripted {s : State} {a : RecvAnswer} {rest : List RecvAnswer}
    (hans : s.recvAns = a :: rest) (hfits : (answerBytes a).length ≤ s.cfg.rxCap) :
    s.afterReceive s.cfg.rxCap = s.received a rest := by
  rw [State.afterReceive, State.recvAnswer_of_scripted hans hfits, State.afterRecvAnswer, hans]
  rfl

theorem State.stepWait_of_response {s : State} {x : Byte} {xs : List Byte} {rest : List RecvAnswer}
    (hans : s.recvAns = .bytes (x :: xs) :: rest) (hfits : (x :: xs).length ≤ s.cfg.rxCap) :
    s.stepWait = (s.received (.bytes (x :: xs)) rest).onResponse := by
  simp only [State.stepWait, State.attempt, State.recvAnswer_of_scripted hans hfits,
    State.afterReceive_of_scripted hans hfits]

theorem State.stepWait_of_failure {s : State} {rest : List RecvAnswer} (hans : s.recvAns = .failure :: rest) :
    s.stepWait = (s.received .failure rest).raise .transportError := by
  have hfits : (answerBytes .failure).length ≤ s.cfg.rxCap := Nat.zero_le _
  simp only [State.stepWait, State.attempt, State.recvAnswer_of_scripted hans hfits,
    State.afterReceive_of_scripted hans hfits]

/-- An answer that brings no byte: the limit of the waiting discipline decides (46_transport_wait.md R266 to R268). -/
theorem State.attempt_of_nothing {s : State} {a : RecvAnswer} {rest : List RecvAnswer} (hans : s.recvAns = a :: rest)
    (hnothing : a = .timeout ∨ a = .bytes []) : s.attempt = (s.received a rest).noResponse := by
  have hfits : (answerBytes a).length ≤ s.cfg.rxCap := by
    rcases hnothing with rfl | rfl <;> exact Nat.zero_le _
  rw [State.attempt, State.recvAnswer_of_scripted hans hfits, State.afterReceive_of_scripted hans hfits]
  rcases hnothing with rfl | rfl <;> rfl

theorem State.stepWait_of_deadline {s : State} {a : RecvAnswer} {rest : List RecvAnswer} (hans : s.recvAns = a :: rest)
    (hnothing : a = .timeout ∨ a = .bytes []) (hmode : s.cfg.waitMode = .deadline) :
    s.stepWait = (s.received a rest).raise .timeoutError := by
  simp only [State.stepWait, State.attempt_of_nothing hans hnothing, State.noResponse, State.received_cfg, hmode]

theorem State.stepWait_of_poll {s : State} {a : RecvAnswer} {rest : List RecvAnswer} (hans : s.recvAns = a :: rest)
    (hnothing : a = .timeout ∨ a = .bytes []) (hmode : s.cfg.waitMode = .poll) :
    s.stepWait =
      if limitReached s.cfg.retryLimit (s.tries + 1) then
        State.raise .timeoutError { s.received a rest with tries := s.tries + 1 }
      else { s.received a rest with tries := s.tries + 1 } := by
  rw [State.stepWait, State.attempt_of_nothing hans hnothing]
  rcases State.noResponse_cases (s.received a rest) with ⟨hdeadline, -⟩ | ⟨-, hlimit, h⟩ | ⟨-, hlimit, h⟩
  · simp [hmode] at hdeadline
  · rw [h]
    exact (if_pos hlimit).symm
  · rw [h]
    exact (if_neg (Bool.eq_false_iff.mp hlimit)).symm

theorem State.onResponse_of_read {s : State} (hbusy : s.busy = true) (hop : s.op = 0x02) :
    s.onResponse = { s with seq := .decode } := by
  rw [State.onResponse, if_pos hbusy]
  exact if_pos hop

theorem State.onResponse_of_write {s : State} (hbusy : s.busy = true) (hop : s.op = 0x01) :
    s.onResponse = if s.sb.toNat + 1 < s.nsb.toNat then s.nextExchange else completed s := by
  rw [State.onResponse, if_pos hbusy, if_neg (ne_opRdreg hop), State.complete_eq]
  simp only [State.moreExchanges, decide_eq_true_eq]

/-- Settles O40: a response leads on by the operation and the exchange; any other answer is a fault or one more
attempt. -/
theorem waitPhaseFollowsTheAnswer : Obligations.WaitPhaseFollowsTheAnswer := by
  intro s a rest hseq hbusy hans finfo
  have hfinfo : s.finfoNow = finfo := State.finfoNow_of_wait hbusy hseq
  rw [State.advance_of_wait hseq]
  refine ⟨?response, ?failure, ?nothing⟩
  case response =>
    rintro x xs rfl hfits t
    have ht : s.received (.bytes (x :: xs)) rest = t := rfl
    rw [State.stepWait_of_response hans hfits, ht]
    refine ⟨?read, ?next, ?last⟩
    case read => exact State.onResponse_of_read (s := t) hbusy
    case next =>
      intro hop hsb hnsb
      rw [State.onResponse_of_write (s := t) hbusy hop, if_pos]
      · rfl
      · show s.sb.toNat + 1 < s.nsb.toNat
        simp [hsb, hnsb]
    case last =>
      intro hop hlast hnsb
      rw [State.onResponse_of_write (s := t) hbusy hop, if_neg]
      show ¬s.sb.toNat + 1 < s.nsb.toNat
      bv_omega
  case failure =>
    rintro rfl
    rw [State.stepWait_of_failure hans, State.raise_eq, ← hfinfo]
    rfl
  case nothing =>
    intro hnothing
    have hempty : answerBytes a = [] := by rcases hnothing with rfl | rfl <;> rfl
    have hreceived : s.received a rest = { s with recvAns := rest, rxbuf := [], outs := s.outs ++ [.received a] } := by
      rw [State.received, hempty]
    refine ⟨fun hmode => ?deadline, fun hmode n hlimit hn => ?exhausted, fun hmode hlimit => ?again⟩
    case deadline =>
      rw [State.stepWait_of_deadline hans hnothing hmode, hreceived, ← hfinfo]
      rfl
    case exhausted =>
      have hreached : limitReached s.cfg.retryLimit (s.tries + 1) = true := by simpa [hlimit, limitReached] using hn
      rw [State.stepWait_of_poll hans hnothing hmode, if_pos hreached, hreceived, ← hfinfo]
      rfl
    case again =>
      have hopen : ¬limitReached s.cfg.retryLimit (s.tries + 1) = true := by
        rcases hlimit with hl | ⟨n, hl, hn⟩
        · simp [hl, limitReached]
        · simpa [hl, limitReached] using hn
      rw [State.stepWait_of_poll hans hnothing hmode, if_neg hopen, hreceived]

/-! ### DECODE and the commit of a read -/

theorem State.advance_of_decode {s : State} (h : s.seq = .decode) : s.advance = s.stepDecode := by
  rw [State.advance, h]

/-- In DECODE the operation issued directly would answer what the sequencer's decoder does: a fault, which leaves IDLE,
shows. -/
theorem State.decA_of_exec {raw : List Byte} {s : State} {a : Byte} {f : Six Half} (hseq : s.seq = .decode)
    (h : exec (.decA raw) s = .next { s with acc := a, res := .six f }) :
    s.decA raw = .done f { s with acc := a } := by
  obtain ⟨a', ⟨f', hdec⟩ | ⟨c, hdec⟩⟩ := State.decA_frame raw s <;> rw [exec_decA, hdec] at h <;> injection h with h
  · obtain rfl : a' = a := congrArg State.acc h
    obtain rfl : f' = f := OpResult.six.inj (congrArg State.res h)
    exact hdec
  · have hidle : Phase.idle = s.seq := congrArg State.seq h
    simp [hseq] at hidle

theorem State.decB_of_exec {raw : List Byte} {s : State} {st : Nat} {e : Bool} {a : Byte} {f : Four Half}
    (hseq : s.seq = .decode)
    (h : exec (.decB raw) s = .next { s with start := st, escp := e, acc := a, res := .four f }) :
    s.decB raw = .done f { s with start := st, escp := e, acc := a } := by
  obtain ⟨st', e', a', ⟨f', hdec⟩ | ⟨c, hdec⟩⟩ := State.decB_frame raw s <;> rw [exec_decB, hdec] at h <;>
    injection h with h
  · obtain rfl : st' = st := congrArg State.start h
    obtain rfl : e' = e := congrArg State.escp h
    obtain rfl : a' = a := congrArg State.acc h
    obtain rfl : f' = f := OpResult.four.inj (congrArg State.res h)
    exact hdec
  · have hidle : Phase.idle = s.seq := congrArg State.seq h
    simp [hseq] at hidle

theorem State.stepDecode_of_decA {s t : State} {f : Six Half} (hvariant : s.cfg.variant = .A)
    (h : s.decA s.rxbuf = .done f t) : s.stepDecode = State.onDecoded { t with stg := f } := by
  simp only [State.stepDecode, hvariant, h]

theorem State.stepDecode_of_decB {s t : State} {f : Four Half} (hvariant : s.cfg.variant = .B)
    (h : s.decB s.rxbuf = .done f t) : s.stepDecode = State.onDecoded { t with stg := stageB t.sb f t.stg } := by
  simp only [State.stepDecode, hvariant, h]

theorem State.onDecoded_of_more {s : State} (h : s.sb.toNat + 1 < s.nsb.toNat) : s.onDecoded = s.nextExchange :=
  if_pos (decide_eq_true h)

theorem State.onDecoded_of_last {s : State} (h : ¬s.sb.toNat + 1 < s.nsb.toNat) : s.onDecoded = completed s.commit :=
  if_neg (mt of_decide_eq_true h)

/-- The sanitiser of either class is the value a read returns (43_frame_decode.md R186). -/
theorem sanitize_eq_returnedValue (cls : RegClass) (u : Half) : sanitize cls u = returnedValue cls u := by
  cases cls with
  | magnitude =>
    simp only [sanitize, returnedValue]
    split
    case isTrue h => exact sanClamp_of_le h
    case isFalse h => exact sanClamp_of_gt (Nat.lt_of_not_le h)
  | signed =>
    simp only [sanitize, returnedValue]
    split
    case isTrue h => exact sanSigned_of_le h
    case isFalse h => exact sanSigned_of_gt (Nat.lt_of_not_le h)

/-- A committed result is the staged value as a read returns it (45_register_access.md R239). -/
theorem sanitizeRv_get_toInt (cls : RegClass) {n : Nat} (stg : Six Half) (rv : Six (BitVec 17)) {i : Nat} (hi : i < n)
    (h6 : n ≤ 6) : ((sanitizeRv cls n stg rv).get i).toInt = returnedValue cls (stg.get i) := by
  rw [sanitizeRv_get cls n stg rv hi h6, toInt_ofInt_sanitize, sanitize_eq_returnedValue]

/-- A result the count does not reach keeps what it held (45_register_access.md R239). -/
theorem sanitizeRv_get_of_le (cls : RegClass) {n : Nat} (stg : Six Half) (rv : Six (BitVec 17)) {i : Nat} (hn : n ≤ i)
    (hi : i < 6) : (sanitizeRv cls n stg rv).get i = rv.get i := by
  have hcases : i = 0 ∨ i = 1 ∨ i = 2 ∨ i = 3 ∨ i = 4 ∨ i = 5 := by omega
  rcases hcases with rfl | rfl | rfl | rfl | rfl | rfl <;> exact if_neg (Nat.not_lt.mpr hn)

/-- Settles O42: what the decoder answers is staged; the last exchange commits it, another one follows else. -/
theorem decodePhaseStagesAndCommits : Obligations.DecodePhaseStagesAndCommits := by
  intro s hseq _ hcount st e a commits
  have hcommits (g : Six Half) (hlast : ¬s.sb.toNat + 1 < s.nsb.toNat)
      (h : s.advance = State.onDecoded { s with start := st, escp := e, acc := a, stg := g }) : commits g s.advance :=
    ⟨sanitizeRv s.cls s.count.toNat g s.rv, h.trans (State.onDecoded_of_last hlast),
      fun _ hk => sanitizeRv_get_toInt _ _ _ hk hcount, fun _ hk h6 => sanitizeRv_get_of_le _ _ _ hk h6⟩
  refine ⟨?variantA, ?variantB⟩
  case variantA =>
    rintro f hvariant hsb hnsb rfl rfl hexec
    refine hcommits f (by simp [hsb, hnsb]) ?_
    rw [State.advance_of_decode hseq, State.stepDecode_of_decA hvariant (State.decA_of_exec hseq hexec)]
  case variantB =>
    intro f hvariant hexec
    have hstaged : s.advance =
        State.onDecoded { s with start := st, escp := e, acc := a, stg := stageB s.sb f s.stg } := by
      rw [State.advance_of_decode hseq, State.stepDecode_of_decB hvariant (State.decB_of_exec hseq hexec)]
    refine ⟨?single, ?first, ?second⟩
    case single =>
      intro hsb hnsb
      rw [stageB, if_pos hsb] at hstaged
      exact hcommits _ (by simp [hsb, hnsb]) hstaged
    case first =>
      intro hsb hnsb
      have hmore : s.sb.toNat + 1 < s.nsb.toNat := by simp [hsb, hnsb]
      rw [stageB, if_pos hsb] at hstaged
      exact hstaged.trans (State.onDecoded_of_more hmore)
    case second =>
      intro hsb hnsb
      have hsecond : s.sb ≠ 0 := by simp [hsb]
      rw [stageB, if_neg hsecond] at hstaged
      exact hcommits _ (by simp [hsb, hnsb]) hstaged

/-! ### What writes the results -/

/-- RV, RCOUNT and RVALID (10_state.md R23). -/
def State.results (s : State) : Six (BitVec 17) × BitVec 3 × Bool := (s.rv, s.rcount, s.rvalid)

theorem State.results_eq_iff (s t : State) :
    t.results = s.results ↔ t.rv = s.rv ∧ t.rcount = s.rcount ∧ t.rvalid = s.rvalid := by
  simp [State.results]

theorem DatapathOnly.results {s t : State} (d : DatapathOnly s t) : t.results = s.results :=
  (congrArg State.results d.rest :)

theorem DatapathThenFault.results {s t : State} (d : DatapathThenFault s t) : t.results = s.results := by
  rcases d with d | ⟨u, c, d, rfl⟩
  · exact d.results
  · exact d.results

theorem State.stepBuild_results (s : State) : s.stepBuild.results = s.results := by
  rw [State.stepBuild_eq]
  rfl

theorem State.stepSend_results (s : State) : s.stepSend.results = s.results := by
  rcases State.stepSend_cases s with ⟨-, h⟩ | ⟨-, h⟩ <;> rw [h] <;> exact (DatapathOnly.afterSendAnswer s).results

theorem State.onResponse_results (s : State) : s.onResponse.results = s.results := by
  rcases State.onResponse_cases s with ⟨-, -, h⟩ | ⟨-, -, -, h⟩ | ⟨-, -, -, h⟩ | ⟨-, h⟩ <;> rw [h] <;> rfl

theorem State.stepWait_results (s : State) : s.stepWait.results = s.results := by
  have hreceive := (DatapathOnly.afterReceive s s.cfg.rxCap).results
  rcases State.stepWait_cases s with ⟨x, xs, -, h⟩ | ⟨-, h⟩ | ⟨-, ⟨-, h⟩ | ⟨-, -, h⟩ | ⟨-, -, h⟩⟩ <;> rw [h]
  · exact (State.onResponse_results _).trans hreceive
  all_goals exact hreceive

/-- DECODE writes the results by the commit alone, which ends the transaction (45_register_access.md R240). -/
theorem State.stepDecode_results (s : State) :
    s.stepDecode.results = s.results ∨ ∃ u : State, u.count = s.count ∧ s.stepDecode = completed u.commit := by
  obtain ⟨st, e, a, ⟨c, h⟩ | ⟨g, h⟩⟩ := State.stepDecode_cases s <;> rw [h]
  · exact .inl rfl
  · rcases State.onDecoded_cases { s with start := st, escp := e, acc := a, stg := g } with ⟨-, h⟩ | ⟨-, h⟩ <;> rw [h]
    · exact .inl rfl
    · exact .inr ⟨{ s with start := st, escp := e, acc := a, stg := g }, rfl, rfl⟩

theorem State.advance_results (s : State) :
    s.advance.results = s.results ∨
      s.seq = .decode ∧ ∃ u : State, u.count = s.count ∧ s.advance = completed u.commit := by
  cases hseq : s.seq with
  | idle => rw [State.advance_of_idle hseq]; exact .inl rfl
  | build => rw [State.advance_of_build hseq]; exact .inl s.stepBuild_results
  | send => rw [State.advance_of_send hseq]; exact .inl s.stepSend_results
  | wait => rw [State.advance_of_wait hseq]; exact .inl s.stepWait_results
  | decode => rw [State.advance_of_decode hseq]; exact s.stepDecode_results.imp_right (And.intro rfl)

/-- An internal operation writes no result. -/
theorem exec_internal_results {i : Instr} {s t : State} (hi : isHostCommand i = false) (h : exec i s = .next t) :
    t.results = s.results := by
  rcases exec_internal_cases i s t hi h with hd | rfl
  · exact hd.results
  · exact State.stepWait_results _

/-- A command that is accepted clears RCOUNT and RVALID, whatever becomes of it; one that is refused writes nothing
(45_register_access.md R221). -/
def ResultsKeptOrCleared (s t : State) : Prop :=
  t.results = s.results ∨ s.busy = false ∧ t.results = (s.rv, 0, false)

theorem State.registerCommand_results (c : Command) (s : State) : ResultsKeptOrCleared s (s.registerCommand c) := by
  rcases State.registerCommand_cases c s with ⟨-, h⟩ | ⟨hb, -, h⟩ | ⟨hb, -, -, h⟩ | ⟨e, hb, -, -, h⟩ <;> rw [h]
  · exact .inl rfl
  all_goals exact .inr ⟨hb, rfl⟩

theorem State.illegalCommand_results (c : Command) (s : State) : ResultsKeptOrCleared s (s.illegalCommand c) := by
  rcases State.illegalCommand_cases c s with ⟨-, h⟩ | ⟨hb, h⟩ <;> rw [h]
  · exact .inl rfl
  · exact .inr ⟨hb, rfl⟩

theorem State.writeOperand_results (h v : Nat) (s : State) : (s.writeOperand h v).results = s.results := by
  unfold State.writeOperand
  split <;> rfl

/-- No input but a reset writes the results, save the transition that commits and a command's acceptance. -/
theorem StepEffect.results {u t : State} (h : StepEffect u t) : ResultsKeptOrCleared u t ∨ t = u.advance := by
  rcases h with rfl | ⟨c, -, rfl⟩ | ⟨c, rfl⟩ | rfl | ⟨n, v, rfl⟩ | rfl | ⟨-, n, v, rfl⟩ | ⟨-, i, hi, h⟩
  · exact .inr rfl
  · exact .inl (State.registerCommand_results c u)
  · exact .inl (State.illegalCommand_results c u)
  · exact .inl (.inl rfl)
  · exact .inl (.inl rfl)
  · exact .inl (.inl rfl)
  · exact .inl (.inl (State.writeOperand_results n v u))
  · exact .inl (.inl (exec_internal_results hi h))

/-- Settles O43: `State.results` changes by the commit of DECODE and by acceptance alone; a commit raises no fault. -/
theorem resultsAreWrittenOnlyByCommit : Obligations.ResultsAreWrittenOnlyByCommit := by
  unfold Obligations.ResultsAreWrittenOnlyByCommit
  intro same committed cleared
  have hsame {s t : State} : t.results = s.results → same s t := (State.results_eq_iff s t).mp
  have hcleared {s t : State} : s.busy = false ∧ t.results = (s.rv, 0, false) → cleared s t := by
    rintro ⟨hidle, hres⟩
    simp only [State.results, Prod.mk.injEq] at hres
    exact ⟨hidle, hres⟩
  have hadvance (s : State) : same s s.advance ∨ committed s s.advance := by
    rcases s.advance_results with hkept | ⟨hseq, u, hcount, h⟩
    · exact .inl (hsame hkept)
    · refine .inr ⟨hseq, ?_⟩
      rw [h, ← hcount]
      exact ⟨rfl, rfl, rfl, rfl, rfl⟩
  refine ⟨?newFault, hadvance, ?exec, ?step⟩
  case newFault =>
    intro s _ hfault
    rcases hadvance s with h | ⟨-, -, -, -, hnoFault, -⟩
    · exact h
    · simp [hnoFault] at hfault
  case exec =>
    intro i s t h hne
    cases hhost : isHostCommand i with
    | false => exact .inl (hsame (exec_internal_results hhost h))
    | true =>
      obtain ⟨c, rfl⟩ : ∃ c, t = s.registerCommand c := by
        cases i with
        | wrreg | rdreg => injection h with h; exact ⟨_, h.symm⟩
        | reset => exact absurd rfl hne
        | _ => cases hhost
      exact (State.registerCommand_results c s).imp hsame fun h => ⟨rfl, hcleared h⟩
  case step =>
    intro s t h hreset
    rcases (step_effect s t h hreset).results with (hkept | hclear) | rfl
    · exact .inl (hsame hkept)
    · exact .inr (.inl (hcleared hclear))
    · exact (hadvance { s with inputs := s.inputs.tail }).imp_right .inr

/-! ### Runs: acceptance, then exchange by exchange -/

theorem runsTo_zero (s : State) : runsTo 0 s s := rfl

/-- With nothing presented a run goes on with the sequencer's transition. -/
theorem runsTo_of_advance {k : Nat} {s t u : State} (hin : s.inputs = []) (h : s.advance = t) (hrun : runsTo k t u) :
    runsTo (k + 1) s u :=
  (runsTo_succ k s u).mpr ⟨t, by rw [step_of_no_input hin, h], hrun⟩

/-- A run from an idle block that is presented one command for a known register goes on from its first BUILD. -/
theorem runsTo_of_command {k : Nat} {s u : State} {c : Command} {e : RegEntry} (hin : s.inputs = [.command c])
    (hop : c.op = 0x01 ∨ c.op = 0x02) (hidle : s.busy = false) (hmin : 1 ≤ c.count.toNat) (hmax : c.count.toNat ≤ 6)
    (hentry : s.cfg.regmap.find? (fun e => e.name == c.name) = some e)
    (hrun : runsTo k (begun c e { s with inputs := [] }) u) : runsTo (k + 1) s u := by
  let u0 : State := { s with inputs := [] }
  have hpresent : present c u0 = .next (u0.registerCommand c) := by
    rcases present_cases c u0 with ⟨-, h⟩ | ⟨-, h⟩ | ⟨h15, -⟩ | ⟨h1, h2, -⟩
    · exact h
    · exact h
    · rw [h15] at hop
      exact absurd hop (by decide)
    · exact absurd hop (not_or.mpr ⟨h1, h2⟩)
  have hbegun : u0.registerCommand c = begun c e u0 := State.registerCommand_of_known hidle hmin hmax hentry
  exact (runsTo_succ k s u).mpr ⟨_, (step_of_input hin).trans (hpresent.trans (congrArg _ hbegun)), hrun⟩

@[simp] theorem completed_outs (s : State) :
    (completed s).outs = s.outs ++ [.completion ⟨true, 0, 0, s.rcount, s.rv.toList.take s.rcount.toNat⟩] := rfl

/-- The state after BUILD and a SEND that was answered Ok, `sa` being the further answers. -/
def State.requested (sa : List SendAnswer) (s : State) : State :=
  { s with
    txbuf := s.requestFrame
    acc := sum8 s.requestRange
    sendAns := sa
    outs := s.outs ++ [.sent s.requestFrame .ok]
    tries := 0
    seq := .wait }

@[simp] theorem State.requested_outs (sa : List SendAnswer) (s : State) :
    (s.requested sa).outs = s.outs ++ [.sent s.requestFrame .ok] := rfl

theorem runsTo_of_requested {k : Nat} {s u : State} {sa : List SendAnswer} (hseq : s.seq = .build) (hin : s.inputs = [])
    (hsend : s.sendAns = .ok :: sa) (hrun : runsTo k (s.requested sa) u) : runsTo (k + 2) s u := by
  let built : State := { s with txbuf := s.requestFrame, acc := sum8 s.requestRange, seq := .send }
  have hbuild : s.advance = built := (State.advance_of_build hseq).trans s.stepBuild_eq
  have hsent : built.advance = s.requested sa := (State.advance_of_send rfl).trans (State.stepSend_of_ok hsend)
  exact runsTo_of_advance hin hbuild (runsTo_of_advance hin hsent hrun)

/-- An exchange up to its response: BUILD, SEND, WAIT. -/
theorem runsTo_of_answered {k : Nat} {s u : State} {b : List Byte} {sa : List SendAnswer} {ra : List RecvAnswer}
    (hseq : s.seq = .build) (hin : s.inputs = []) (hsend : s.sendAns = .ok :: sa) (hrecv : s.recvAns = .bytes b :: ra)
    (hb : b ≠ []) (hfits : b.length ≤ s.cfg.rxCap)
    (hrun : runsTo k ((s.requested sa).received (.bytes b) ra).onResponse u) : runsTo (k + 3) s u := by
  obtain ⟨x, xs, rfl⟩ := List.exists_cons_of_ne_nil hb
  refine runsTo_of_requested hseq hin hsend (runsTo_of_advance hin ?_ hrun)
  exact (State.advance_of_wait rfl).trans (State.stepWait_of_response (s := s.requested sa) hrecv hfits)

/-! ### Writes -/

theorem State.requestFrame_of_writeA {s : State} (hvariant : s.cfg.variant = .A) (hop : s.op = 0x01) :
    s.requestFrame = frameA (bodyAWr s.devid s.exchangeAddr s.suppliedValues) := by
  simp only [State.requestFrame, State.requestRange, hvariant, if_neg (ne_opRdreg hop)]

/-- The Variant B frame that writes `vals` at `addr` (42_frame_encode.md R154). -/
def writeFrameB (addr : Half) (vals : List Half) : List Byte :=
  wireB (unstuffedB (coreB true addr (writeWindow vals) (BitVec.ofNat 8 (2 * vals.length))))

theorem State.requestFrame_of_writeB {s : State} (hvariant : s.cfg.variant = .B) (hop : s.op = 0x01) :
    s.requestFrame = writeFrameB s.exchangeAddr s.subBlockValues := by
  simp only [State.requestFrame, State.requestRange, State.requestCoreB, hvariant, if_neg (ne_opRdreg hop), writeFrameB]

/-- A write ends with the response of its last exchange. -/
theorem State.onResponse_of_lastWrite {s : State} (hbusy : s.busy = true) (hop : s.op = 0x01)
    (hlast : ¬s.sb.toNat + 1 < s.nsb.toNat) : s.onResponse = completed s := by
  rw [State.onResponse_of_write hbusy hop, if_neg hlast]

/-- Settles O44: acceptance, and one exchange whose response completes the write. -/
theorem variantAWriteCompletes : Obligations.VariantAWriteCompletes := by
  intro s c e x xs sa ra hvariant hidle hin hop hmin hmax hentry hsend hrecv hfits
  let s1 : State := begun c e { s with inputs := [] }
  let w : State := (s1.requested sa).received (.bytes (x :: xs)) ra
  have hnsb : w.nsb = 1 := congrArg (exchangeCount · c.count.toNat) hvariant
  have hlast : ¬w.sb.toNat + 1 < w.nsb.toNat := by
    rw [hnsb]
    exact Nat.lt_irrefl 1
  have hend : w.onResponse = completed w := State.onResponse_of_lastWrite rfl hop hlast
  have hframe : s1.requestFrame = frameA (bodyAWr c.dev e.base (c.values.toList.take c.count.toNat)) :=
    State.requestFrame_of_writeA (s := s1) hvariant hop
  have hrun : runsTo 4 s (completed w) :=
    runsTo_of_command hin (.inl hop) hidle hmin hmax hentry <|
      runsTo_of_answered rfl rfl hsend hrecv (List.cons_ne_nil x xs) hfits (hend ▸ runsTo_zero _)
  refine ⟨completed w, hrun, rfl, rfl, rfl, rfl, rfl, rfl, rfl, rfl, rfl, rfl, rfl, rfl, ?outputs⟩
  case outputs =>
    rw [completed_outs, State.received_outs, State.requested_outs, hframe, begun_outs, List.append_assoc,
      List.append_assoc]
    rfl

/-- A split write after its first exchange, answered with the bytes `b`: the second is at BUILD. -/
def halfWritten (c : Command) (e : RegEntry) (b : List Byte) (sa : List SendAnswer) (ra : List RecvAnswer) (s : State) :
    State :=
  State.nextExchange (State.received (.bytes b) ra (State.requested sa (begun c e { s with inputs := [] })))

section SplitWrite

variable {s : State} {c : Command} {e : RegEntry} {b : List Byte} {sa : List SendAnswer} {ra : List RecvAnswer}

theorem runsTo_of_halfWritten {k : Nat} {u : State} (hvariant : s.cfg.variant = .B) (hidle : s.busy = false)
    (hin : s.inputs = [.command c]) (hop : c.op = 0x01) (hmin : 5 ≤ c.count.toNat) (hmax : c.count.toNat ≤ 6)
    (hentry : s.cfg.regmap.find? (fun e => e.name == c.name) = some e) (hsend : s.sendAns = .ok :: sa)
    (hrecv : s.recvAns = .bytes b :: ra) (hb : b ≠ []) (hfits : b.length ≤ s.cfg.rxCap)
    (hrun : runsTo k (halfWritten c e b sa ra s) u) : runsTo (k + 4) s u := by
  let w : State := State.received (.bytes b) ra (State.requested sa (begun c e { s with inputs := [] }))
  have hmore : w.sb.toNat + 1 < w.nsb.toNat := by
    show 0 + 1 < (exchangeCount s.cfg.variant c.count.toNat).toNat
    rw [hvariant, exchangeCount_of_split hmin]
    decide
  have hnext : w.onResponse = halfWritten c e b sa ra s := by
    rw [State.onResponse_of_write (s := w) rfl hop, if_pos hmore]
    rfl
  exact runsTo_of_command hin (.inl hop) hidle (by omega) hmax hentry <|
    runsTo_of_answered rfl rfl hsend hrecv hb hfits (hnext ▸ hrun)

theorem halfWritten_outs (hvariant : s.cfg.variant = .B) (hop : c.op = 0x01) :
    (halfWritten c e b sa ra s).outs =
      s.outs ++ [.sent (writeFrameB e.base ((c.values.toList.take c.count.toNat).take 4)) .ok,
        .received (.bytes b)] := by
  have hframe := State.requestFrame_of_writeB (s := begun c e { s with inputs := [] }) hvariant hop
  rw [halfWritten, State.nextExchange_outs, State.received_outs, State.requested_outs, hframe, List.append_assoc]
  rfl

theorem halfWritten_requestFrame (hvariant : s.cfg.variant = .B) (hop : c.op = 0x01) :
    (halfWritten c e b sa ra s).requestFrame =
      writeFrameB (e.base + 8) ((c.values.toList.take c.count.toNat).drop 4) := by
  obtain ⟨hnext, hvals, -⟩ := State.operands_of_second (s := halfWritten c e b sa ra s) rfl
  rw [State.requestFrame_of_writeB (s := halfWritten c e b sa ra s) hvariant hop, hnext, hvals]
  rfl

end SplitWrite

/-- Settles O45: the second exchange sends the rest, and its response completes the write. -/
theorem variantBSplitWriteCompletes : Obligations.VariantBSplitWriteCompletes := by
  intro s c e x y xs ys sa ra hvariant hidle hin hop hmin hmax hentry hsend hrecv hfitsx hfitsy vals frame
  let s2 : State := halfWritten c e (x :: xs) (.ok :: sa) (.bytes (y :: ys) :: ra) s
  let w : State := (s2.requested sa).received (.bytes (y :: ys)) ra
  have hend : w.onResponse = completed w :=
    State.onResponse_of_lastWrite rfl hop (Nat.not_lt.mpr (exchangeCount_le s.cfg.variant c.count.toNat))
  have hrun : runsTo 7 s (completed w) :=
    runsTo_of_halfWritten hvariant hidle hin hop hmin hmax hentry hsend hrecv (List.cons_ne_nil x xs) hfitsx <|
      runsTo_of_answered rfl rfl rfl rfl (List.cons_ne_nil y ys) hfitsy (hend ▸ runsTo_zero _)
  refine ⟨completed w, hrun, rfl, rfl, rfl, rfl, rfl, rfl, rfl, rfl, rfl, ?outputs⟩
  case outputs =>
    rw [completed_outs, State.received_outs, State.requested_outs, halfWritten_requestFrame hvariant hop,
      halfWritten_outs hvariant hop]
    simp only [List.append_assoc]
    rfl

/-- Settles O46: the second exchange sends the rest and waits once; the fault entry finds both frames sent. -/
theorem secondExchangeTimeoutReportsHalfDoneWrite : Obligations.SecondExchangeTimeoutReportsHalfDoneWrite := by
  intro s c e x xs sa ra hvariant hmode hidle hin hop hmin hmax hentry hsend hrecv hfits vals frame
  let s2 : State := halfWritten c e (x :: xs) (.ok :: sa) (.timeout :: ra) s
  let w : State := (s2.requested sa).received .timeout ra
  have htimeout : (s2.requested sa).advance = w.raise .timeoutError :=
    (State.advance_of_wait rfl).trans (State.stepWait_of_deadline rfl (.inl rfl) hmode)
  have hrun : runsTo 7 s (w.raise .timeoutError) :=
    runsTo_of_halfWritten hvariant hidle hin hop hmin hmax hentry hsend hrecv (List.cons_ne_nil x xs) hfits <|
      runsTo_of_requested rfl rfl rfl (runsTo_of_advance rfl htimeout (runsTo_zero _))
  refine ⟨w.raise .timeoutError, hrun, rfl, rfl, rfl, rfl, rfl, rfl, rfl, rfl, rfl, ?outputs⟩
  case outputs =>
    rw [State.raise_outs, State.received_outs, State.requested_outs, halfWritten_requestFrame hvariant hop,
      halfWritten_outs hvariant hop]
    simp only [List.append_assoc]
    rfl

/-! ### Reads -/

/-- An exchange of a read up to DECODE. -/
theorem runsTo_of_readAnswered {k : Nat} {s u : State} {b : List Byte} {sa : List SendAnswer} {ra : List RecvAnswer}
    (hbusy : s.busy = true) (hop : s.op = 0x02) (hseq : s.seq = .build) (hin : s.inputs = [])
    (hsend : s.sendAns = .ok :: sa) (hrecv : s.recvAns = .bytes b :: ra) (hb : b ≠ []) (hfits : b.length ≤ s.cfg.rxCap)
    (hrun : runsTo k { (s.requested sa).received (.bytes b) ra with seq := .decode } u) : runsTo (k + 3) s u := by
  have hread := State.onResponse_of_read (s := (s.requested sa).received (.bytes b) ra) hbusy hop
  exact runsTo_of_answered hseq hin hsend hrecv hb hfits (hread ▸ hrun)

theorem State.requestFrame_of_readA {s : State} (hvariant : s.cfg.variant = .A) (hop : s.op = 0x02) :
    s.requestFrame = frameA (bodyARd s.cfg s.devid s.exchangeAddr) := by
  simp only [State.requestFrame, State.requestRange, hvariant, if_pos (show s.op = opRdreg from hop)]

theorem fieldsA_get (raw : List Byte) {k : Nat} (hk : k < 6) :
    (fieldsA raw).get k = u16le (raw.getD (7 + 2 * k) 0) (raw.getD (8 + 2 * k) 0) := by
  have hcases : k = 0 ∨ k = 1 ∨ k = 2 ∨ k = 3 ∨ k = 4 ∨ k = 5 := by omega
  rcases hcases with rfl | rfl | rfl | rfl | rfl | rfl <;> rfl

/-- DEC.A accepts a response that is long enough and, where it verifies, has the right sum (43_frame_decode.md R170,
R171, R174). -/
theorem exec_decA_of_response {raw : List Byte} (s : State)
    (hgood : s.cfg.rxVerify = false ∧ 19 ≤ raw.length ∨
      s.cfg.rxVerify = true ∧ 20 ≤ raw.length ∧
        raw.getD 19 0 = BitVec.ofNat 8 (((raw.take 19).drop 2).map BitVec.toNat).sum) :
    ∃ a, exec (.decA raw) s = .next { s with acc := a, res := .six (fieldsA raw) } := by
  rcases hgood with ⟨hverify, hlen⟩ | ⟨hverify, hlen, hck⟩
  · exact ⟨s.acc, by rw [exec_decA, State.decA_of_unverified hverify hlen, Ran.settle_done]⟩
  · have hsum : raw.getD 19 0 = sum8 (slice raw 2 19) := hck.trans (sum8_eq_ofNat_sum _).symm
    exact ⟨_, by rw [exec_decA, State.decA_of_verified hverify hlen hsum, Ran.settle_done]⟩

/-- RCOUNT holds every legal count (10_state.md R23). -/
theorem toNat_rcount {n : Nat} (h : n ≤ 6) : (BitVec.ofNat 3 n).toNat = n := by
  rw [BitVec.toNat_ofNat]
  omega

/-- Settles O47: acceptance, one exchange up to DECODE, and what DECODE commits of an accepted response. -/
theorem variantAReadDeliversTheFields : Obligations.VariantAReadDeliversTheFields := by
  intro s c e raw sa ra hvariant hidle hin hop hmin hmax hentry hsend hrecv hfits hgood
  let s1 : State := begun c e { s with inputs := [] }
  let w : State := { (s1.requested sa).received (.bytes raw) ra with seq := .decode }
  have hraw : raw ≠ [] := List.ne_nil_of_length_pos (by omega)
  have hnsb : w.nsb = 1 := congrArg (exchangeCount · c.count.toNat) hvariant
  have hframe : s1.requestFrame = frameA (bodyARd s.cfg c.dev e.base) :=
    State.requestFrame_of_readA (s := s1) hvariant hop
  obtain ⟨a, hexec⟩ := exec_decA_of_response w hgood
  obtain ⟨hcommits, -⟩ := decodePhaseStagesAndCommits w rfl rfl hmax w.start w.escp a
  obtain ⟨rv, hend, hvalues, hothers⟩ := hcommits (fieldsA raw) hvariant rfl hnsb rfl rfl hexec
  let t : State := completed { w with
    acc := a
    stg := fieldsA raw
    rv := rv
    rcount := BitVec.ofNat 3 c.count.toNat
    rvalid := true }
  have hrun : runsTo 5 s t :=
    runsTo_of_command hin (.inr hop) hidle hmin hmax hentry <|
      runsTo_of_readAnswered rfl hop rfl rfl hsend hrecv hraw hfits (runsTo_of_advance rfl hend (runsTo_zero t))
  have hrcount : t.rcount.toNat = c.count.toNat := toNat_rcount hmax
  refine ⟨t, hrun, rfl, rfl, rfl, rfl, rfl, rfl, hrcount, rfl, rfl, fun k hk => ?values, hothers, ?outputs⟩
  case values => exact (hvalues k hk).trans (by rw [fieldsA_get raw (by omega)]; rfl)
  case outputs =>
    have hexchange : w.outs = s.outs ++ [.sent s1.requestFrame .ok] ++ [.received (.bytes raw)] := rfl
    have hcompletion : t.outs = w.outs ++ [.completion ⟨true, 0, 0, t.rcount, t.rv.toList.take t.rcount.toNat⟩] := rfl
    rw [hcompletion, hexchange, hframe, hrcount, List.append_assoc, List.append_assoc]
    rfl

/-! ### Responses of Variant B -/

/-- What a peer answers with four values at an address, escaped as RX_UNSTUFF expects it (43_frame_decode.md R179). -/
def responseFor (c : Config) : List Byte → Half → Half → Half → Half → Half → List Byte :=
  if c.rxUnstuff then peerResponseB else plainResponseB

theorem bytesFromMarker_plainResponseB {c : Config} {g : List Byte} (addr v0 v1 v2 v3 : Half)
    (hunstuff : c.rxUnstuff = false) (hg : (0xAA : Byte) ∉ g) :
    bytesFromMarker c (plainResponseB g addr v0 v1 v2 v3) =
      unstuffedB (coreB false addr (le16s [v0, v1, v2, v3]) 8) := by
  rw [plainResponseB, bytesFromMarker_append_of_not_mem c _ hg, bytesFromMarker_of_plain _ hunstuff]
  rfl

/-- DEC.B gives back the values of an unescaped response, verified or not (43_frame_decode.md R175, R180). -/
theorem exec_decB_plainResponseB {g : List Byte} (addr v0 v1 v2 v3 : Half) {s : State}
    (hunstuff : s.cfg.rxUnstuff = false) (hg : (0xAA : Byte) ∉ g) :
    ∃ st e a, exec (.decB (plainResponseB g addr v0 v1 v2 v3)) s =
      .next { s with start := st, escp := e, acc := a, res := .four ⟨v0, v1, v2, v3⟩ } := by
  generalize hraw : plainResponseB g addr v0 v1 v2 v3 = raw
  generalize hcore : coreB false addr (le16s [v0, v1, v2, v3]) 8 = core
  have hlen : core.length = 16 := hcore ▸ coreB_length false addr 8 rfl
  have hmem : (0xAA : Byte) ∈ raw := by simp [← hraw, plainResponseB, unstuffedB]
  have hk : bytesFromMarker s.cfg raw = [0xAA, 0xAA] ++ core ++ (sum8 core :: [0x55, 0x55]) := by
    rw [← hraw, bytesFromMarker_plainResponseB addr v0 v1 v2 v3 hunstuff hg, hcore, unstuffedB]
    simp
  have hfields : fieldsB (bytesFromMarker s.cfg raw) = ⟨v0, v1, v2, v3⟩ := by rw [hk, ← hcore, fieldsB_coreB]
  have hklen : 19 ≤ (bytesFromMarker s.cfg raw).length := by simp [hk, hlen]
  have hsum : (bytesFromMarker s.cfg raw).getD 18 0 = sum8 (slice (bytesFromMarker s.cfg raw) 2 18) := by
    rw [hk, slice_core _ hlen, getD_behind_core _ _ hlen]
  rw [← hfields]
  cases hverify : s.cfg.rxVerify with
  | false => exact ⟨_, _, _, exec_decB_of_unverified hmem hverify (by omega)⟩
  | true => exact ⟨_, _, _, exec_decB_of_verified hmem hverify hklen hsum⟩

/-- In every configuration DEC.B gives back the values of the response meant for it. -/
theorem exec_decB_responseFor {g : List Byte} (addr v0 v1 v2 v3 : Half) (s : State) (hg : (0xAA : Byte) ∉ g) :
    ∃ st e a, exec (.decB (responseFor s.cfg g addr v0 v1 v2 v3)) s =
      .next { s with start := st, escp := e, acc := a, res := .four ⟨v0, v1, v2, v3⟩ } := by
  cases hunstuff : s.cfg.rxUnstuff with
  | false =>
    rw [responseFor, hunstuff]
    exact exec_decB_plainResponseB addr v0 v1 v2 v3 hunstuff hg
  | true =>
    obtain ⟨t, f, hexec, hres, rfl, -, ht⟩ :=
      decodeBWithUnstuffReturnsTheStuffedValues g [] addr v0 v1 v2 v3 s hunstuff hg
    rw [List.append_nil] at hexec
    rw [responseFor, hunstuff, ← hres]
    exact ⟨t.start, t.escp, t.acc, hexec.trans (congrArg _ ht)⟩

theorem wireB_ne_nil (u : List Byte) : wireB u ≠ [] := by simp [wireB]

theorem unstuffedB_ne_nil (core : List Byte) : unstuffedB core ≠ [] := by simp [unstuffedB]

theorem responseFor_ne_nil (c : Config) (g : List Byte) (addr v0 v1 v2 v3 : Half) :
    responseFor c g addr v0 v1 v2 v3 ≠ [] := by
  unfold responseFor
  split
  · exact List.append_ne_nil_of_right_ne_nil g (wireB_ne_nil _)
  · exact List.append_ne_nil_of_right_ne_nil g (unstuffedB_ne_nil _)

/-- Settles O48: each exchange stages the values of its response, and the second commits them together. -/
theorem variantBSplitReadRecombines : Obligations.VariantBSplitReadRecombines := by
  intro s c e g1 g2 v w0 w1 sa ra hvariant hidle hin hop hmin hmax hentry hg1 hg2 response r1 r2 hsend hrecv hfits1
    hfits2
  let s1 : State := begun c e { s with inputs := [] }
  let d1 : State := { (s1.requested (.ok :: sa)).received (.bytes r1) (.bytes r2 :: ra) with seq := .decode }
  have hnsb : exchangeCount s.cfg.variant c.count.toNat = 2 := by rw [hvariant, exchangeCount_of_split hmin]
  have hr1 : r1 ≠ [] := responseFor_ne_nil s.cfg g1 e.base v.v0 v.v1 v.v2 v.v3
  have hr2 : r2 ≠ [] := responseFor_ne_nil s.cfg g2 (e.base + 8) v.v4 v.v5 w0 w1
  obtain ⟨st1, e1, a1, hexec1⟩ := exec_decB_responseFor e.base v.v0 v.v1 v.v2 v.v3 d1 hg1
  obtain ⟨-, hB1⟩ := decodePhaseStagesAndCommits d1 rfl rfl hmax st1 e1 a1
  obtain ⟨-, hfirst, -⟩ := hB1 _ hvariant hexec1
  let s2 : State :=
    { d1 with
      start := st1
      escp := e1
      acc := a1
      stg := ⟨v.v0, v.v1, v.v2, v.v3, s.stg.v4, s.stg.v5⟩
      sb := 1
      seq := .build }
  have hnext : d1.advance = s2 := hfirst rfl hnsb
  let d2 : State := { (s2.requested sa).received (.bytes r2) ra with seq := .decode }
  obtain ⟨st2, e2, a2, hexec2⟩ := exec_decB_responseFor (e.base + 8) v.v4 v.v5 w0 w1 d2 hg2
  obtain ⟨-, hB2⟩ := decodePhaseStagesAndCommits d2 rfl rfl hmax st2 e2 a2
  obtain ⟨-, -, hsecond⟩ := hB2 _ hvariant hexec2
  obtain ⟨rv, hend, hvalues, -⟩ := hsecond rfl hnsb
  refine ⟨_, runsTo_of_command hin (.inr hop) hidle (by omega) hmax hentry <|
    runsTo_of_readAnswered rfl hop rfl rfl hsend hrecv hr1 hfits1 <|
    runsTo_of_advance rfl hnext <|
    runsTo_of_readAnswered rfl hop rfl rfl rfl rfl hr2 hfits2 <|
    runsTo_of_advance rfl hend (runsTo_zero _),
    rfl, rfl, rfl, rfl, rfl, rfl, toNat_rcount hmax, hvalues⟩

end Sys2Proof.Machine
end

section
/-! PROOFS. The statements of 46_transport_wait.md: SEND, RECV and WAITRSP issued directly, what each step hands to the
transport, and the empty attempts of Poll mode. -/

namespace Sys2Proof.Machine

/-! ### SEND issued directly -/

theorem State.afterSendAnswer_of_scripted {s : State} {a : SendAnswer} {rest : List SendAnswer}
    (hans : s.sendAns = a :: rest) : s.afterSendAnswer = { s with sendAns := rest } := by
  rw [State.afterSendAnswer, hans]

theorem State.afterSendAnswer_of_unscripted {s : State} (hans : s.sendAns = []) :
    s.afterSendAnswer = { s with draws := s.draws + 1 } := by
  rw [State.afterSendAnswer, hans]

theorem State.sendAnswer_of_scripted {s : State} {a : SendAnswer} {rest : List SendAnswer}
    (hans : s.sendAns = a :: rest) : s.sendAnswer = a := by
  rw [State.sendAnswer, hans]

/-- SEND ends with the latch empty, or with the fault entry of TransportError, as the transport answers
(46_transport_wait.md R260). -/
theorem exec_send_cases (b : List Byte) (s : State) :
    (s.sendAnswer = .ok ∧ exec (.send b) s = .next { s.afterSendAnswer.emit (.sent b .ok) with res := .none }) ∨
    (s.sendAnswer = .failure ∧
      exec (.send b) s =
        .next (faulted 3 s.afterSendAnswer.finfoNow (s.afterSendAnswer.emit (.sent b .failure)))) := by
  have hexec : exec (.send b) s = .next ((s.sendFrame b).settle fun _ => .none) := rfl
  rw [hexec]
  rcases State.sendFrame_cases b s with ⟨hans, h⟩ | ⟨hans, h⟩ <;> rw [h]
  · exact .inl ⟨hans, rfl⟩
  · exact .inr ⟨hans, rfl⟩

/-- Settles O27: the scripted answer, or a free one, decides between the two ends of SEND. -/
theorem sendHandsTheFrameOver : Obligations.SendHandsTheFrameOver := by
  refine ⟨fun b s rest hans => ?ok, fun b s rest hans => ?failure, fun b s hans => ?free⟩
  case ok =>
    rcases exec_send_cases b s with ⟨-, h⟩ | ⟨hfailed, -⟩
    · rw [h, State.afterSendAnswer_of_scripted hans]; rfl
    · simp [State.sendAnswer_of_scripted hans] at hfailed
  case failure =>
    rcases exec_send_cases b s with ⟨hok, -⟩ | ⟨-, h⟩
    · simp [State.sendAnswer_of_scripted hans] at hok
    · rw [h, State.afterSendAnswer_of_scripted hans]; rfl
  case free =>
    rcases exec_send_cases b s with ⟨-, h⟩ | ⟨-, h⟩ <;> rw [h, State.afterSendAnswer_of_unscripted hans]
    · exact .inl rfl
    · exact .inr rfl

/-! ### RECV issued directly -/

theorem exec_recv (max t : Half) (s : State) :
    exec (.recv max t) s =
      .next { s.afterReceive max.toNat with res := .answer (s.recvAnswer max.toNat) } := rfl

/-- An answer within the transport's contract is taken as it is (46_transport_wait.md R261; log 4). -/
theorem capAnswer_of_fits {limit : Nat} {a : RecvAnswer} (hfits : (answerBytes a).length ≤ limit) :
    capAnswer limit a = a := by
  cases a with
  | bytes b => exact congrArg RecvAnswer.bytes (List.take_of_length_le hfits)
  | timeout | failure => rfl

theorem answerBytes_capAnswer_length_le (limit : Nat) (a : RecvAnswer) :
    (answerBytes (capAnswer limit a)).length ≤ limit := by
  cases a with
  | bytes b => exact List.length_take_le limit b
  | timeout | failure => exact Nat.zero_le limit

/-- What a receive attempt brings fits what was asked for. -/
theorem State.recvAnswer_length_le (max : Nat) (s : State) : (answerBytes (s.recvAnswer max)).length ≤ max := by
  have hlimit : s.recvLimit max ≤ max := Nat.min_le_left max s.cfg.rxCap
  unfold State.recvAnswer
  split <;> exact (answerBytes_capAnswer_length_le _ _).trans hlimit

/-- A receive attempt overwrites RXBUF, whatever it held (46_transport_wait.md R263). -/
theorem State.afterReceive_eq (max : Nat) (s : State) :
    s.afterReceive max =
      { s with
        recvAns := s.recvAns.tail
        draws := if s.recvAns = [] then s.draws + 1 else s.draws
        rxbuf := answerBytes (s.recvAnswer max)
        outs := s.outs ++ [.received (s.recvAnswer max)] } := by
  cases hans : s.recvAns <;> simp [State.afterReceive, State.afterRecvAnswer, hans]

theorem exec_recv_of_scripted {max : Half} (t : Half) {s : State} {a : RecvAnswer} {rest : List RecvAnswer}
    (hans : s.recvAns = a :: rest) (hmax : (answerBytes a).length ≤ max.toNat)
    (hcap : (answerBytes a).length ≤ s.cfg.rxCap) :
    exec (.recv max t) s = .next { s.received a rest with res := .answer a } := by
  have hanswer : s.recvAnswer max.toNat = a := by
    rw [State.recvAnswer, hans]
    exact capAnswer_of_fits (Nat.le_min.mpr ⟨hmax, hcap⟩)
  rw [exec_recv, State.afterReceive_eq, hanswer, hans]
  rfl

/-- Settles O28: a scripted answer within the contract is taken as it is, and any answer overwrites RXBUF. -/
theorem receiveReplacesTheBuffer : Obligations.ReceiveReplacesTheBuffer := by
  refine ⟨fun max t s b rest hans hmax hcap => ?bytes, fun max t s a rest hans hempty => ?nothing,
    fun max t s => ?anyAnswer⟩
  case bytes => exact exec_recv_of_scripted t hans hmax hcap
  case nothing =>
    rcases hempty with rfl | rfl <;>
      exact exec_recv_of_scripted t hans (Nat.zero_le _) (Nat.zero_le _)
  case anyAnswer =>
    rw [exec_recv, State.afterReceive_eq]
    refine ⟨_, rfl, s.recvAnswer_length_le max.toNat, s.recvAnswer_fits max.toNat, rfl, rfl, fun old => ?_⟩
    rw [exec_recv, State.afterReceive_eq]
    exact ⟨_, rfl, rfl⟩

/-! ### WAITRSP issued directly -/

theorem exec_waitrsp (s : State) :
    exec .waitrsp s = .next (State.stepWait { s with tries := 0, seq := .wait }) := rfl

theorem State.finfoNow_of_idle {s : State} (hidle : s.busy = false) : s.finfoNow = 0 := by
  rw [State.finfoNow, hidle, if_neg Bool.false_ne_true]

theorem State.onResponse_of_idle {s : State} (hidle : s.busy = false) :
    s.onResponse = { s with seq := .idle, res := .bytes s.rxbuf } := by
  rw [State.onResponse, hidle, if_neg Bool.false_ne_true]

/-- Fault entry outside a transaction has FINFO 0 (60_exceptions.md R285; log 11). -/
theorem State.raise_of_idle {s : State} (c : Cause) (hidle : s.busy = false) : s.raise c = faulted c.code 0 s := by
  rw [State.raise_eq, State.finfoNow_of_idle hidle]

theorem answerBytes_of_nothing {a : RecvAnswer} (hnothing : a = .timeout ∨ a = .bytes []) : answerBytes a = [] := by
  rcases hnothing with rfl | rfl <;> rfl

/-- Settles O29: WAITRSP is the first attempt of a wait that begins with no attempt made. -/
theorem waitForResponseByDiscipline : Obligations.WaitForResponseByDiscipline := by
  intro s a rest hans hidle
  let w : State := { s with tries := 0, seq := .wait }
  have hwait : exec .waitrsp s = .next w.stepWait := exec_waitrsp s
  have hansw : w.recvAns = a :: rest := hans
  rw [hwait]
  refine ⟨?response, ?failure, fun hnothing => ?nothing⟩
  case response =>
    rintro x xs rfl hfits
    rw [State.stepWait_of_response hansw hfits]
    exact congrArg _ (State.onResponse_of_idle (s := w.received (.bytes (x :: xs)) rest) hidle)
  case failure =>
    rintro rfl
    rw [State.stepWait_of_failure hansw]
    exact congrArg _ (State.raise_of_idle .transportError hidle)
  case nothing =>
    have hreceived : w.received a rest = { w with recvAns := rest, rxbuf := [], outs := s.outs ++ [.received a] } := by
      rw [State.received, answerBytes_of_nothing hnothing]
    refine ⟨fun hmode => ?deadline, fun hmode n hlimit hn => ?exhausted, fun hmode hlimit => ?again⟩
    case deadline =>
      rw [State.stepWait_of_deadline hansw hnothing hmode, hreceived]
      exact congrArg _ (State.raise_of_idle .timeoutError hidle)
    case exhausted =>
      have hreached : limitReached s.cfg.retryLimit 1 = true := by simpa [hlimit, limitReached] using hn
      rw [State.stepWait_of_poll hansw hnothing hmode, if_pos hreached, hreceived]
      exact congrArg _ (State.raise_of_idle .timeoutError hidle)
    case again =>
      have hopen : ¬limitReached s.cfg.retryLimit 1 = true := by
        rcases hlimit with hl | ⟨n, hl, hn⟩
        · simp [hl, limitReached]
        · simpa [hl, limitReached] using hn
      rw [State.stepWait_of_poll hansw hnothing hmode, if_neg hopen, hreceived]

/-! ### The trace: frames handed over and attempts made -/

@[simp] theorem sentFrames_append (l l' : List Output) : sentFrames (l ++ l') = sentFrames l ++ sentFrames l' := by
  induction l with
  | nil => rfl
  | cons o l ih => cases o <;> simp [sentFrames, ih]

@[simp] theorem receiveCount_append (l l' : List Output) :
    receiveCount (l ++ l') = receiveCount l + receiveCount l' := by
  induction l with
  | nil => exact (Nat.zero_add _).symm
  | cons o l ih => cases o <;> simp [receiveCount, ih, Nat.add_right_comm]

@[simp] theorem sentFrames_map_received (as : List RecvAnswer) : sentFrames (as.map .received) = [] := by
  induction as with
  | nil => rfl
  | cons a as ih => exact ih

@[simp] theorem receiveCount_map_received (as : List RecvAnswer) : receiveCount (as.map .received) = as.length := by
  induction as with
  | nil => rfl
  | cons a as ih => exact congrArg (· + 1) ih

/-- `t` has put out what `s` has and then some outputs, whose frames are `fs`. -/
def Sends (fs : List (List Byte)) (s t : State) : Prop := ∃ new, t.outs = s.outs ++ new ∧ sentFrames new = fs

theorem Sends.sentFrames_eq {fs : List (List Byte)} {s t : State} (h : Sends fs s t) :
    sentFrames t.outs = sentFrames s.outs ++ fs := by
  obtain ⟨new, hnew, hfs⟩ := h
  rw [hnew, sentFrames_append, hfs]

theorem Sends.sentFrames_of_none {s t : State} (h : Sends [] s t) : sentFrames t.outs = sentFrames s.outs := by
  rw [h.sentFrames_eq, List.append_nil]

theorem Sends.of_outs_eq {s t : State} (h : t.outs = s.outs) : Sends [] s t :=
  ⟨[], by rw [h, List.append_nil], rfl⟩

theorem Sends.trans {fs gs : List (List Byte)} {s t u : State} (h : Sends fs s t) (h' : Sends gs t u) :
    Sends (fs ++ gs) s u := by
  obtain ⟨new, hnew, hfs⟩ := h
  obtain ⟨new', hnew', hgs⟩ := h'
  exact ⟨new ++ new', by rw [hnew', hnew, List.append_assoc], by rw [sentFrames_append, hfs, hgs]⟩

theorem Sends.emit (o : Output) (s : State) : Sends (sentFrames [o]) s (s.emit o) := ⟨[o], rfl, rfl⟩

theorem Sends.raise {fs : List (List Byte)} {s t : State} (h : Sends fs s t) (c : Cause) : Sends fs s (t.raise c) := by
  have hraise : Sends [] t (t.raise c) := ⟨[.completion ⟨false, c.code, t.finfoNow, 0, []⟩], rfl, rfl⟩
  simpa using h.trans hraise

theorem Sends.complete (s : State) : Sends [] s s.complete :=
  ⟨[.completion ⟨true, 0, 0, s.rcount, s.rv.toList.take s.rcount.toNat⟩], rfl, rfl⟩

theorem Sends.afterReceive (max : Nat) (s : State) : Sends [] s (s.afterReceive max) :=
  ⟨[.received (s.recvAnswer max)], s.afterReceive_outs max, rfl⟩

theorem Sends.afterSendAnswer_emit (b : List Byte) (a : SendAnswer) (s : State) :
    Sends [b] s (s.afterSendAnswer.emit (.sent b a)) :=
  (Sends.of_outs_eq s.afterSendAnswer_outs).trans (Sends.emit (.sent b a) s.afterSendAnswer)

/-! ### What the sequencer hands over -/

theorem State.onResponse_sends (s : State) : Sends [] s s.onResponse := by
  rcases State.onResponse_cases s with ⟨-, -, h⟩ | ⟨-, -, -, h⟩ | ⟨-, -, -, h⟩ | ⟨-, h⟩ <;> rw [h]
  case inr.inr.inl => exact Sends.complete s
  all_goals exact Sends.of_outs_eq rfl

theorem State.stepWait_sends (s : State) : Sends [] s s.stepWait := by
  have hreceive := Sends.afterReceive s.cfg.rxCap s
  have htried : Sends [] s { s.afterReceive s.cfg.rxCap with tries := s.tries + 1 } := hreceive
  rcases State.stepWait_cases s with ⟨x, xs, -, h⟩ | ⟨-, h⟩ | ⟨-, ⟨-, h⟩ | ⟨-, -, h⟩ | ⟨-, -, h⟩⟩ <;> rw [h]
  · exact hreceive.trans (State.onResponse_sends _)
  · exact hreceive.raise _
  · exact hreceive.raise _
  · exact htried.raise _
  · exact htried

theorem State.stepDecode_sends (s : State) : Sends [] s s.stepDecode := by
  obtain ⟨st, e, a, ⟨c, h⟩ | ⟨g, h⟩⟩ := State.stepDecode_cases s <;> rw [h]
  · exact Sends.raise (Sends.of_outs_eq rfl) c
  · let u : State := { s with start := st, escp := e, acc := a, stg := g }
    have hdecoded : Sends [] u u.onDecoded := by
      rcases State.onDecoded_cases u with ⟨-, h⟩ | ⟨-, h⟩ <;> rw [h]
      · exact Sends.of_outs_eq rfl
      · exact Sends.complete u.commit
    exact hdecoded

/-- SEND hands TXBUF over once and is left: for WAIT, or for IDLE by a fault (46_transport_wait.md R265). -/
theorem State.stepSend_sends (s : State) : Sends [s.txbuf] s s.stepSend ∧ s.stepSend.seq ≠ .send := by
  rcases State.stepSend_cases s with ⟨-, h⟩ | ⟨-, h⟩ <;> rw [h]
  · exact ⟨Sends.afterSendAnswer_emit s.txbuf .ok s, nofun⟩
  · exact ⟨(Sends.afterSendAnswer_emit s.txbuf .failure s).raise _, nofun⟩

/-- The sequencer hands a frame over in SEND alone. -/
theorem State.advance_sends (s : State) :
    Sends [] s s.advance ∨ s.seq = .send ∧ Sends [s.txbuf] s s.advance ∧ s.advance.seq ≠ .send := by
  cases hseq : s.seq with
  | idle => rw [State.advance_of_idle hseq]; exact .inl (Sends.of_outs_eq rfl)
  | build => rw [State.advance_of_build hseq, State.stepBuild_eq]; exact .inl (Sends.of_outs_eq rfl)
  | send => rw [State.advance_of_send hseq]; exact .inr ⟨rfl, s.stepSend_sends⟩
  | wait => rw [State.advance_of_wait hseq]; exact .inl s.stepWait_sends
  | decode => rw [State.advance_of_decode hseq]; exact .inl s.stepDecode_sends

/-! ### What an operation and a port hand over -/

/-- An operation that hands over the frames `fs`, whether it ends with a value or a fault. -/
def Ran.SendsFrom {α : Type} (fs : List (List Byte)) (s : State) : Ran α → Prop
  | .done _ t => Sends fs s t
  | .raised _ t => Sends fs s t

theorem Ran.SendsFrom.settle {α : Type} {fs : List (List Byte)} {s : State} {r : Ran α} (h : r.SendsFrom fs s)
    (f : α → OpResult) : Sends fs s (r.settle f) := by
  cases r with
  | done v t => exact h
  | raised c t => exact Sends.raise h c

theorem State.sendFrame_sends (b : List Byte) (s : State) : (s.sendFrame b).SendsFrom [b] s := by
  rcases State.sendFrame_cases b s with ⟨-, h⟩ | ⟨-, h⟩ <;> rw [h] <;> exact Sends.afterSendAnswer_emit b _ s

theorem State.lookup_sends (name : Byte) (s : State) : (s.lookup name).SendsFrom [] s := by
  rcases State.lookup_cases name s with ⟨e, -, h⟩ | ⟨-, h⟩ <;> rw [h] <;> exact Sends.of_outs_eq rfl

theorem State.encAWr_sends (dev : Byte) (addr : Half) (vals : List Half) (s : State) :
    (s.encAWr dev addr vals).SendsFrom [] s := by
  rw [State.encAWr_eq]
  split <;> exact Sends.of_outs_eq rfl

theorem State.encARd_sends (dev : Byte) (addr : Half) (s : State) : (s.encARd dev addr).SendsFrom [] s := by
  rw [State.encARd_eq]
  exact Sends.of_outs_eq rfl

theorem State.buildB_sends (w : Bool) (addr : Half) (window : List Byte) (d : Byte) (s : State) :
    (s.buildB w addr window d).SendsFrom [] s := by
  rw [State.buildB_eq]
  exact Sends.of_outs_eq rfl

theorem State.encBWr_sends (addr : Half) (vals : List Half) (s : State) : (s.encBWr addr vals).SendsFrom [] s := by
  unfold State.encBWr
  split
  · exact Sends.of_outs_eq rfl
  · exact State.buildB_sends ..

theorem State.encBRd_sends (addr : Half) (c : Byte) (s : State) : (s.encBRd addr c).SendsFrom [] s :=
  State.buildB_sends ..

theorem State.decA_sends (raw : List Byte) (s : State) : (s.decA raw).SendsFrom [] s := by
  obtain ⟨a, ⟨f, h⟩ | ⟨c, h⟩⟩ := State.decA_frame raw s <;> rw [h] <;> exact Sends.of_outs_eq rfl

theorem State.decB_sends (raw : List Byte) (s : State) : (s.decB raw).SendsFrom [] s := by
  obtain ⟨st, e, a, ⟨f, h⟩ | ⟨c, h⟩⟩ := State.decB_frame raw s <;> rw [h] <;> exact Sends.of_outs_eq rfl

theorem State.registerCommand_sends (c : Command) (s : State) : Sends [] s (s.registerCommand c) := by
  have haccepted : Sends [] s (accepted c s) := Sends.of_outs_eq rfl
  rcases State.registerCommand_cases c s with ⟨-, h⟩ | ⟨-, -, h⟩ | ⟨-, -, -, h⟩ | ⟨e, -, -, -, h⟩ <;> rw [h]
  · exact Sends.emit .refusedBusy s
  · exact haccepted.raise _
  · exact haccepted.raise _
  · exact haccepted

theorem State.illegalCommand_sends (c : Command) (s : State) : Sends [] s (s.illegalCommand c) := by
  rcases State.illegalCommand_cases c s with ⟨-, h⟩ | ⟨-, h⟩ <;> rw [h]
  · exact Sends.emit .refusedBusy s
  · exact Sends.raise (Sends.of_outs_eq rfl) _

/-- Of the operations SEND alone hands a frame over: its operand (46_transport_wait.md R260). -/
theorem exec_sends {i : Instr} {s t : State} (h : exec i s = .next t) :
    Sends [] s t ∨ ∃ b, i = .send b ∧ Sends [b] s t := by
  cases i with
  | send b => injection h with h; exact .inr ⟨b, rfl, h ▸ (State.sendFrame_sends b s).settle _⟩
  | wrreg | rdreg => injection h with h; exact .inl (h ▸ State.registerCommand_sends _ s)
  | reset | stuff | unstuff | sanClamp | sanSigned =>
    injection h with h; exact .inl (Sends.of_outs_eq (h ▸ rfl))
  | cksum b => rw [exec_cksum] at h; injection h with h; exact .inl (Sends.of_outs_eq (h ▸ rfl))
  | lookup name => injection h with h; exact .inl (h ▸ (State.lookup_sends name s).settle _)
  | encAWr | frameAWr => injection h with h; exact .inl (h ▸ (State.encAWr_sends _ _ _ s).settle _)
  | encARd | frameARd => injection h with h; exact .inl (h ▸ (State.encARd_sends _ _ s).settle _)
  | encBWr | frameBWr => injection h with h; exact .inl (h ▸ (State.encBWr_sends _ _ s).settle _)
  | encBRd | frameBRd => injection h with h; exact .inl (h ▸ (State.encBRd_sends _ _ s).settle _)
  | decA raw => injection h with h; exact .inl (h ▸ (State.decA_sends raw s).settle _)
  | decB raw => injection h with h; exact .inl (h ▸ (State.decB_sends raw s).settle _)
  | recv max time => injection h with h; exact .inl (h ▸ Sends.afterReceive max.toNat s)
  | waitrsp =>
    injection h with h
    exact .inl (h ▸ State.stepWait_sends { s with tries := 0, seq := .wait })

theorem present_sends {c : Command} {s t : State} (h : present c s = .next t) : Sends [] s t := by
  rcases present_cases c s with ⟨-, e⟩ | ⟨-, e⟩ | ⟨-, e⟩ | ⟨-, -, -, e⟩ <;>
    obtain rfl := Host.Outcome.next.inj (e.symm.trans h)
  · exact State.registerCommand_sends c s
  · exact State.registerCommand_sends c s
  · exact Sends.of_outs_eq rfl
  · exact State.illegalCommand_sends c s

/-- A direct issue hands over the operand of a SEND, if anything. -/
theorem issue_sends {image : List Byte} {s t : State} (h : issue image s = .next t) :
    Sends [] s t ∨ ∃ b r, decode image = .ok (.send b, r) ∧ Sends [b] s t := by
  rcases issue_cases image s with ⟨_, -, e⟩ | ⟨_, _, -, -, -, e⟩ | ⟨i, r, hdec, -, e⟩ <;> rw [e] at h
  · cases h
  · injection h with h
    exact .inl (h ▸ Sends.emit .refusedBusy s)
  · rcases exec_sends h with hnone | ⟨b, rfl, hone⟩
    · exact .inl hnone
    · exact .inr ⟨b, r, hdec, hone⟩

/-- A host read that answers puts the value out, and does nothing else (10_state.md R34). -/
theorem hostRead_eq_emit {n : Nat} {s t : State} (h : hostRead n s = .next t) : ∃ v, t = s.emit (.readData n v) := by
  rcases Nat.lt_or_ge 18 n with hout | hin
  · rw [hostRead_of_unassigned s hout] at h; cases h
  rcases Nat.lt_or_ge n 10 with hlow | hlow
  · rw [hostRead_of_writeOnly s (Nat.le_of_lt_succ hlow)] at h; cases h
  have hcases : n = 10 ∨ n = 11 ∨ n = 12 ∨ ∃ i < 6, n = 13 + i := by
    rcases Nat.lt_or_ge n 13 with hview | hresult
    · omega
    · exact .inr (.inr (.inr ⟨n - 13, by omega, by omega⟩))
  rcases hcases with rfl | rfl | rfl | ⟨i, hi, rfl⟩
  · injection h with h; exact ⟨_, h.symm⟩
  · injection h with h; exact ⟨_, h.symm⟩
  · injection h with h; exact ⟨_, h.symm⟩
  · rw [hostRead_result s hi] at h
    cases hv : s.readRv i with
    | none => rw [hv] at h; cases h
    | some v => rw [hv] at h; injection h with h; exact ⟨v, h.symm⟩

theorem State.writeOperand_outs (n v : Nat) (s : State) : (s.writeOperand n v).outs = s.outs := by
  unfold State.writeOperand
  split <;> rfl

theorem hostWrite_sends {n v : Nat} {s t : State} (h : hostWrite n v s = .next t) : Sends [] s t := by
  rcases Nat.eq_zero_or_pos n with rfl | hpos
  · exact present_sends (c := s.commandOf v) h
  rcases Nat.lt_or_ge n 10 with hoperand | h10
  · rw [hostWrite_operand s v hpos (Nat.le_of_lt_succ hoperand)] at h
    injection h with h
    subst h
    split
    · exact Sends.of_outs_eq rfl
    · exact Sends.of_outs_eq (State.writeOperand_outs n v s)
  rcases Nat.lt_or_ge 18 n with hout | h18
  · rw [hostWrite_of_unassigned s v hout] at h; cases h
  · rw [hostWrite_of_readOnly s v h10 h18] at h; cases h

/-- One input hands a frame over when it lets the sequencer leave SEND, or issues a SEND directly. -/
theorem take_sends {i : Input} {s t : State} (h : take i s = .next t) :
    Sends [] s t ∨ (s.seq = .send ∧ Sends [s.txbuf] s t ∧ t.seq ≠ .send) ∨
      ∃ image b r, i = .issue image ∧ decode image = .ok (.send b, r) ∧ Sends [b] s t := by
  cases i with
  | idle => injection h with h; subst h; exact s.advance_sends.imp_right .inl
  | command c => exact .inl (present_sends (c := c) h)
  | issue image =>
    rcases issue_sends (image := image) h with hnone | ⟨b, r, hdec, hone⟩
    · exact .inl hnone
    · exact .inr (.inr ⟨image, b, r, rfl, hdec, hone⟩)
  | hostRead n =>
    obtain ⟨v, rfl⟩ := hostRead_eq_emit (n := n) h
    exact .inl (Sends.emit (.readData n v) s)
  | hostWrite n v => exact .inl (hostWrite_sends (n := n) (v := v) h)
  | powerOn => injection h with h; exact .inl (Sends.of_outs_eq (h ▸ rfl))

/-- Settles O55: a step is an input taken, or the sequencer's transition. -/
theorem framesAreSentOnlyFromTheSendPhase : Obligations.FramesAreSentOnlyFromTheSendPhase := by
  intro s t h
  rcases step_cases s with ⟨-, e⟩ | ⟨i, rest, hin, e⟩ <;> rw [e] at h
  · injection h with h
    subst h
    rcases s.advance_sends with hs | ⟨hseq, hs, hleft⟩
    · exact .inl hs.sentFrames_of_none
    · exact .inr ⟨s.txbuf, hs.sentFrames_eq, .inl ⟨hseq, rfl, hleft⟩⟩
  · rcases take_sends h with hs | ⟨hseq, hs, hleft⟩ | ⟨image, b, r, rfl, hdec, hs⟩
    · exact .inl hs.sentFrames_of_none
    · exact .inr ⟨s.txbuf, hs.sentFrames_eq, .inl ⟨hseq, rfl, hleft⟩⟩
    · exact .inr ⟨b, hs.sentFrames_eq, .inr ⟨image, rest, r, hin, hdec⟩⟩

/-! ### Empty attempts in Poll mode -/

/-- The state after attempts that the transport answered with `as`, none of them a response; `ra` are its further
answers (46_transport_wait.md R266, R267). -/
def State.attempted (as ra : List RecvAnswer) (s : State) : State :=
  { s with
    tries := s.tries + as.length
    recvAns := ra
    rxbuf := as.foldl (fun _ a => answerBytes a) s.rxbuf
    outs := s.outs ++ as.map .received }

theorem State.attempted_nil (s : State) : s.attempted [] s.recvAns = s := by
  simp [State.attempted]

theorem State.attempted_append (as bs mid ra : List RecvAnswer) (s : State) :
    (s.attempted as mid).attempted bs ra = s.attempted (as ++ bs) ra := by
  simp [State.attempted, Nat.add_assoc]

theorem State.attempted_sends (as ra : List RecvAnswer) (s : State) : Sends [] s (s.attempted as ra) :=
  ⟨as.map .received, rfl, sentFrames_map_received as⟩

theorem State.attempted_receiveCount (as ra : List RecvAnswer) (s : State) :
    receiveCount (s.attempted as ra).outs = receiveCount s.outs + as.length := by
  simp [State.attempted]

/-- One empty attempt of a wait in Poll mode: one more is counted, and the limit decides. -/
theorem State.advance_of_emptyAttempt {s : State} {a : RecvAnswer} {rest : List RecvAnswer} (hseq : s.seq = .wait)
    (hmode : s.cfg.waitMode = .poll) (hans : s.recvAns = a :: rest) (hnothing : a = .timeout ∨ a = .bytes []) :
    s.advance =
      if limitReached s.cfg.retryLimit (s.tries + 1) then (s.attempted [a] rest).raise .timeoutError
      else s.attempted [a] rest := by
  rw [State.advance_of_wait hseq]
  exact State.stepWait_of_poll hans hnothing hmode

/-- Below the limit every empty attempt is followed by another: a run goes on after any number of them. -/
theorem runsTo_of_attempted {k : Nat} {s u : State} {as ra : List RecvAnswer} (hseq : s.seq = .wait)
    (hin : s.inputs = []) (hmode : s.cfg.waitMode = .poll) (hnothing : ∀ a ∈ as, a = .timeout ∨ a = .bytes [])
    (hopen : ∀ n ≤ s.tries + as.length, limitReached s.cfg.retryLimit n = false) (hans : s.recvAns = as ++ ra)
    (hrun : runsTo k (s.attempted as ra) u) : runsTo (k + as.length) s u := by
  induction as generalizing s with
  | nil =>
    rw [← (show s.recvAns = ra from hans), State.attempted_nil] at hrun
    exact hrun
  | cons a as ih =>
    rw [List.length_cons] at hopen
    rw [List.forall_mem_cons] at hnothing
    obtain ⟨hfirst, hothers⟩ := hnothing
    have hrest : s.recvAns = a :: (as ++ ra) := hans
    have hagain : s.advance = s.attempted [a] (as ++ ra) := by
      rw [State.advance_of_emptyAttempt hseq hmode hrest hfirst, hopen _ (by omega), if_neg Bool.false_ne_true]
    refine runsTo_of_advance hin hagain (ih hseq hin hmode hothers (fun n hn => hopen n ?_) rfl ?_)
    · have hn : n ≤ s.tries + 1 + as.length := hn
      omega
    · rw [State.attempted_append]
      exact hrun

/-- Settles O49: all attempts but the last stay below the limit, which the last one reaches. -/
theorem boundedPollTimesOutAfterTheLimit : Obligations.BoundedPollTimesOutAfterTheLimit := by
  intro s answers n ra hbusy hseq htries hin hmode hlimit hpos hlen hnothing hans
  have hopen (as : List RecvAnswer) (hlt : as.length < n) :
      ∀ m ≤ s.tries + as.length, limitReached s.cfg.retryLimit m = false := by
    intro m hm
    simp only [hlimit, limitReached, decide_eq_false_iff_not]
    omega
  refine ⟨?timesOut, fun k hk => ?waits⟩
  case timesOut =>
    obtain ⟨as, a, rfl⟩ : ∃ as a, answers = as ++ [a] :=
      (List.eq_nil_or_concat' answers).resolve_left (List.ne_nil_of_length_pos (by omega))
    rw [List.length_append, List.length_singleton] at hlen
    let w : State := s.attempted as (a :: ra)
    let t : State := (s.attempted (as ++ [a]) ra).raise .timeoutError
    have hreached : limitReached w.cfg.retryLimit (w.tries + 1) = true := by
      show limitReached s.cfg.retryLimit (s.tries + as.length + 1) = true
      simp only [hlimit, limitReached, decide_eq_true_eq]
      omega
    have hlast : w.advance = t := by
      rw [State.advance_of_emptyAttempt (s := w) hseq hmode rfl (hnothing a (by simp)), if_pos hreached,
        State.attempted_append]
    have hrun : runsTo (1 + as.length) s t :=
      runsTo_of_attempted hseq hin hmode (fun b hb => hnothing b (List.mem_append_left _ hb)) (hopen as (by omega))
        (hans.trans (List.append_assoc ..)) (runsTo_of_advance hin hlast (runsTo_zero t))
    have hcount : (as ++ [a]).length = n := by rw [List.length_append, List.length_singleton, hlen]
    have hattempts : t.tries = n := by
      show s.tries + (as ++ [a]).length = n
      rw [htries, hcount, Nat.zero_add]
    have hreceived : receiveCount t.outs = receiveCount s.outs + n := by
      rw [State.raise_outs, receiveCount_append, State.attempted_receiveCount, hcount]
      rfl
    have hsent : Sends [] s t := (State.attempted_sends (as ++ [a]) ra s).raise .timeoutError
    rw [Nat.add_comm, hlen] at hrun
    exact ⟨t, hrun, rfl, rfl, rfl, rfl, rfl, hattempts, rfl, hreceived, hsent.sentFrames_of_none⟩
  case waits =>
    have hlenk : (answers.take k).length = k := List.length_take_of_le (by omega)
    let u : State := s.attempted (answers.take k) (answers.drop k ++ ra)
    have hans' : s.recvAns = answers.take k ++ (answers.drop k ++ ra) := by
      rw [← List.append_assoc, List.take_append_drop, hans]
    have hrun : runsTo (0 + (answers.take k).length) s u :=
      runsTo_of_attempted hseq hin hmode (fun a ha => hnothing a (List.mem_of_mem_take ha))
        (hopen _ (by omega)) hans' (runsTo_zero u)
    have hattempts : u.tries = k := by
      show s.tries + (answers.take k).length = k
      rw [htries, hlenk, Nat.zero_add]
    rw [Nat.zero_add, hlenk] at hrun
    exact ⟨u, hrun, hbusy, hseq, hattempts⟩

/-! ### A wait without limit -/

/-- While BUSY an input other than a reset lets the sequencer go on, or puts out a refusal or a register's value, or
does nothing. -/
theorem StepEffect.of_busy {s t : State} (h : StepEffect s t) (hbusy : s.busy = true) :
    t = s.advance ∨ ∃ new, t = { s with outs := s.outs ++ new } ∧ sentFrames new = [] := by
  have hidle : s.busy ≠ false := by simp [hbusy]
  rcases h with h | ⟨c, -, rfl⟩ | ⟨c, rfl⟩ | rfl | ⟨n, v, rfl⟩ | rfl | ⟨hfalse, -⟩ | ⟨hfalse, -⟩
  · exact .inl h
  · exact .inr ⟨[.refusedBusy], State.registerCommand_of_busy c hbusy, rfl⟩
  · exact .inr ⟨[.refusedBusy], State.illegalCommand_of_busy c hbusy, rfl⟩
  · exact .inr ⟨[.refusedBusy], rfl, rfl⟩
  · exact .inr ⟨[.readData n v], rfl, rfl⟩
  · exact .inr ⟨[], by rw [List.append_nil], rfl⟩
  · exact absurd hfalse hidle
  · exact absurd hfalse hidle

theorem limitReached_unbounded (n : Nat) : limitReached .unbounded n = false := rfl

/-- A RESET record on the command port resets the registers, whatever the block does (70_reset_and_hazards.md R320,
R331). -/
theorem step_of_resetCommand {s : State} {c : Command} {rest : List Input} (hin : s.inputs = .command c :: rest)
    (hop : c.op = 0x0F) : step s = .next (State.resetRegisters { s with inputs := rest }) := by
  have htake : step s = present c { s with inputs := rest } := step_of_input hin
  rcases present_cases c { s with inputs := rest } with ⟨h, -⟩ | ⟨h, -⟩ | ⟨-, h⟩ | ⟨-, -, h, -⟩
  · rw [hop] at h; cases h
  · rw [hop] at h; cases h
  · exact htake.trans h
  · exact absurd hop h

/-- Settles O50: no empty attempt reaches a limit and no other input touches the wait; a RESET is taken in any phase. -/
theorem unboundedPollEndsOnlyByReset : Obligations.UnboundedPollEndsOnlyByReset := by
  refine ⟨?step, ?run⟩
  case step =>
    intro s t a rest hbusy hseq hmode hlimit hans hnothing hreset hstep
    let u : State := { s with inputs := s.inputs.tail }
    rcases (step_effect s t hstep hreset).of_busy hbusy with hadvance | ⟨new, rfl, hnew⟩
    · have hagain : u.advance = u.attempted [a] rest := by
        have hopen : limitReached u.cfg.retryLimit (u.tries + 1) = false :=
          hlimit ▸ limitReached_unbounded (u.tries + 1)
        rw [State.advance_of_emptyAttempt (s := u) hseq hmode hans hnothing, hopen, if_neg Bool.false_ne_true]
      obtain rfl : t = u.attempted [a] rest := hadvance.trans hagain
      have hsent : Sends [] s (u.attempted [a] rest) := State.attempted_sends [a] rest u
      exact ⟨hbusy, hseq, rfl, rfl, rfl, hsent.sentFrames_of_none, .inr ⟨rfl, rfl⟩⟩
    · have hsent : Sends [] s { u with outs := u.outs ++ new } := ⟨new, rfl, hnew⟩
      exact ⟨hbusy, hseq, rfl, rfl, rfl, hsent.sentFrames_of_none, .inl ⟨rfl, rfl⟩⟩
  case run =>
    intro s answers ra hbusy hseq hin hmode hlimit hnothing hans
    let u : State := s.attempted answers ra
    have hrun : runsTo (0 + answers.length) s u :=
      runsTo_of_attempted hseq hin hmode hnothing (fun n _ => hlimit ▸ limitReached_unbounded n) hans (runsTo_zero u)
    rw [Nat.zero_add] at hrun
    have hsent : Sends [] s u := State.attempted_sends answers ra s
    refine ⟨u, hrun, hbusy, rfl, hseq, rfl, hsent.sentFrames_of_none, fun c rest hop => ?_⟩
    exact ⟨_, step_of_resetCommand rfl hop, rfl, rfl, rfl, rfl, rfl, rfl, rfl⟩

end Sys2Proof.Machine
end

section
/-! PROOFS. The statements of 60_exceptions.md: fault entry, the commands that end at once or are refused, the faults of
DECODE, and what FINFO bit 1 says of the frames sent. -/

namespace Sys2Proof.Machine

/-! ### Fault entry (60_exceptions.md R290) -/

theorem State.finfoNow_of_busy {s : State} (hbusy : s.busy = true) :
    s.finfoNow = BitVec.ofNat 2 (s.sb.toNat + if s.sendReturnedOk then 2 else 0) := by
  rw [State.finfoNow, if_pos hbusy]
  cases s.sendReturnedOk <;> rfl

/-- Settles O36: fault entry is the same inside a transaction and outside, but for FINFO. -/
theorem faultEntryWritesOnlyTheFaultState : Obligations.FaultEntryWritesOnlyTheFaultState :=
  ⟨fun c s hbusy => by rw [State.raise_eq, State.finfoNow_of_busy hbusy], fun c _ => State.raise_of_idle c, rfl⟩

/-! ### FINFO bit 1 in each phase (45_register_access.md R245; log 10) -/

theorem State.sendReturnedOk_of_wait {s : State} (h : s.seq = .wait) : s.sendReturnedOk = true := by
  simp [State.sendReturnedOk, h]

theorem State.sendReturnedOk_of_decode {s : State} (h : s.seq = .decode) : s.sendReturnedOk = true := by
  simp [State.sendReturnedOk, h]

theorem State.sendReturnedOk_of_second {s : State} (h : s.sb = 1) : s.sendReturnedOk = true := by
  simp [State.sendReturnedOk, h]

theorem State.sendReturnedOk_of_build_or_send {s : State} (h : s.seq = .build ∨ s.seq = .send) :
    s.sendReturnedOk = (s.sb == 1) := by
  rw [State.sendReturnedOk, Bool.or_assoc]
  rcases h with h | h <;> rw [h] <;> exact Bool.or_false _

/-! ### Commands that end at once (60_exceptions.md R281, R286) -/

/-- A command just accepted has handed no frame over. -/
theorem finfoNow_accepted (c : Command) (s : State) : (accepted c s).finfoNow = 0 := rfl

theorem State.registerCommand_of_unknownName {c : Command} {s : State} (hidle : s.busy = false)
    (hmin : 1 ≤ c.count.toNat) (hmax : c.count.toNat ≤ 6)
    (hname : s.cfg.regmap.find? (fun e => e.name == c.name) = none) :
    s.registerCommand c = faulted 1 0 (accepted c s) := by
  have hcount : countOk c.count = true := (countOk_iff _).mpr ⟨hmin, hmax⟩
  rw [← findEntry_eq_find] at hname
  rcases State.registerCommand_cases c s with ⟨hb, -⟩ | ⟨-, hc, -⟩ | ⟨-, -, -, h⟩ | ⟨e, -, -, he, -⟩
  · simp [hidle] at hb
  · simp [hcount] at hc
  · rw [h, State.raise_eq, finfoNow_accepted, Cause.code]
  · simp [hname] at he

/-- Settles O32: either command is `registerCommand` of its record, which finds no entry. -/
theorem unknownNameEndsTheCommandBeforeAnyFrame : Obligations.UnknownNameEndsTheCommandBeforeAnyFrame := by
  intro name dev count values s hidle hmin hmax hname
  have hcommand (op : Byte) :=
    State.registerCommand_of_unknownName (c := ⟨op, name, dev, count, values⟩) hidle hmin hmax hname
  exact ⟨congrArg _ (hcommand 0x01), congrArg _ (hcommand 0x02)⟩

theorem present_of_illegal {c : Command} (s : State) (h1 : c.op ≠ 0x01) (h2 : c.op ≠ 0x02) (h15 : c.op ≠ 0x0F) :
    present c s = .next (s.illegalCommand c) := by
  rcases present_cases c s with ⟨h, -⟩ | ⟨h, -⟩ | ⟨h, -⟩ | ⟨-, -, -, h⟩
  · exact absurd h h1
  · exact absurd h h2
  · exact absurd h h15
  · exact h

theorem State.illegalCommand_of_idle {s : State} (c : Command) (hidle : s.busy = false) :
    s.illegalCommand c = faulted 7 0 (accepted c s) := by
  rcases State.illegalCommand_cases c s with ⟨hb, -⟩ | ⟨-, h⟩
  · simp [hidle] at hb
  · rw [h, State.raise_eq, finfoNow_accepted, Cause.code]

/-- Settles O33: the command port makes an illegal command of the record, which ends as soon as it is accepted. -/
theorem illegalCommandEndsAtOnce : Obligations.IllegalCommandEndsAtOnce := by
  intro c s rest hin hidle h1 h2 h15
  have htake : step s = present c { s with inputs := rest } := step_of_input hin
  rw [htake, present_of_illegal _ h1 h2 h15, State.illegalCommand_of_idle (s := { s with inputs := rest }) c hidle]

/-! ### The refusal of the command port (60_exceptions.md R287) -/

theorem present_of_busy {c : Command} {s : State} (hbusy : s.busy = true) (h15 : c.op ≠ 0x0F) :
    present c s = .next s.refuseBusy := by
  rcases present_cases c s with ⟨-, h⟩ | ⟨-, h⟩ | ⟨h, -⟩ | ⟨-, -, -, h⟩
  · rw [h, State.registerCommand_of_busy c hbusy]
  · rw [h, State.registerCommand_of_busy c hbusy]
  · exact absurd h h15
  · rw [h, State.illegalCommand_of_busy c hbusy]

/-- Settles O34: of the records presented while BUSY only a RESET does more than put the refusal out. -/
theorem commandsAreRefusedWhileBusy : Obligations.CommandsAreRefusedWhileBusy := by
  intro c s rest hin hbusy
  refine ⟨fun h15 => ?refused, fun h15 => ⟨_, step_of_resetCommand hin h15, rfl, rfl⟩⟩
  case refused =>
    have htake : step s = present c { s with inputs := rest } := step_of_input hin
    exact htake.trans (present_of_busy hbusy h15)

/-! ### The faults of DECODE (60_exceptions.md R284, R288) -/

theorem State.finfoNow_of_decode {s : State} (hbusy : s.busy = true) (hseq : s.seq = .decode) :
    s.finfoNow = if s.sb = 0 then 2 else 3 := by
  rw [State.finfoNow_of_busy hbusy, State.sendReturnedOk_of_decode hseq]
  rcases BitVec.eq_zero_or_eq_one s.sb with h | h <;> rw [h] <;> rfl

theorem State.stepDecode_of_decA_raised {s t : State} {c : Cause} (hvariant : s.cfg.variant = .A)
    (h : s.decA s.rxbuf = .raised c t) : s.stepDecode = t.raise c := by
  simp only [State.stepDecode, hvariant, h]

theorem State.stepDecode_of_decB_raised {s t : State} {c : Cause} (hvariant : s.cfg.variant = .B)
    (h : s.decB s.rxbuf = .raised c t) : s.stepDecode = t.raise c := by
  simp only [State.stepDecode, hvariant, h]

/-- Settles O41: a short response is malformed in each decoder, and so is one without a marker in Variant B. -/
theorem malformedResponseEndsTheRead : Obligations.MalformedResponseEndsTheRead := by
  intro s hseq hbusy finfo
  have hfinfo : s.finfoNow = finfo := State.finfoNow_of_decode hbusy hseq
  rw [State.advance_of_decode hseq, ← hfinfo]
  refine ⟨fun hvariant hshort => ?variantA, fun hvariant hmem => ⟨s.start, ?noMarker⟩,
    fun hvariant hmem hshort => ?short⟩
  case variantA => exact State.stepDecode_of_decA_raised hvariant (State.decA_of_short hshort)
  case noMarker => exact State.stepDecode_of_decB_raised hvariant (State.decB_of_not_mem s hmem)
  case short =>
    have hraised : s.decB s.rxbuf = .raised .malformedFrame (markerFound s.rxbuf s) :=
      (State.decB_of_mem s hmem).trans (State.decBAt_of_short hshort)
    exact State.stepDecode_of_decB_raised hvariant hraised

/-- Without RX_VERIFY DEC.A has one fault, MalformedFrame. -/
theorem State.decA_cases_of_unverified {s : State} (raw : List Byte) (hverify : s.cfg.rxVerify = false) :
    s.decA raw = .raised .malformedFrame s ∨ ∃ f, s.decA raw = .done f s := by
  rcases Nat.lt_or_ge raw.length 19 with hshort | hlen
  · exact .inl (State.decA_of_short (by rwa [needA_of_unverified hverify]))
  · exact .inr ⟨fieldsA raw, State.decA_of_unverified hverify hlen⟩

/-- Without RX_VERIFY DEC.B has one fault, MalformedFrame; the decoder itself does not write FAULT. -/
theorem State.decB_cases_of_unverified {s : State} (raw : List Byte) (hverify : s.cfg.rxVerify = false) :
    ∃ t : State, t.fault = s.fault ∧ (s.decB raw = .raised .malformedFrame t ∨ ∃ f, s.decB raw = .done f t) := by
  by_cases hmem : (0xAA : Byte) ∈ raw
  case neg => exact ⟨s, rfl, .inl (State.decB_of_not_mem s hmem)⟩
  case pos =>
    have hmarked : (markerFound raw s).cfg.rxVerify = false := hverify
    refine ⟨markerFound raw s, rfl, ?_⟩
    rw [State.decB_of_mem s hmem]
    rcases Nat.lt_or_ge (bytesFromMarker s.cfg raw).length 14 with hshort | hlen
    · exact .inl (State.decBAt_of_short (by rwa [needB_of_unverified hmarked]))
    · exact .inr ⟨_, State.decBAt_of_unverified hmarked hlen⟩

/-- What follows an accepted response raises no fault. -/
theorem State.onDecoded_fault {s : State} (h : s.fault = 0) : s.onDecoded.fault = 0 := by
  rcases State.onDecoded_cases s with ⟨-, e⟩ | ⟨-, e⟩ <;> rw [e]
  · exact h
  · rfl

/-- Without RX_VERIFY, DECODE raises MalformedFrame or nothing. -/
theorem State.stepDecode_fault_of_unverified {s : State} (hverify : s.cfg.rxVerify = false) (hfault : s.fault = 0) :
    s.stepDecode.fault = 0 ∨ s.stepDecode.fault = 4 := by
  cases hvariant : s.cfg.variant with
  | A =>
    rcases State.decA_cases_of_unverified s.rxbuf hverify with h | ⟨f, h⟩
    · rw [State.stepDecode_of_decA_raised hvariant h]; exact .inr rfl
    · rw [State.stepDecode_of_decA hvariant h]; exact .inl (State.onDecoded_fault hfault)
  | B =>
    obtain ⟨t, hkept, h | ⟨f, h⟩⟩ := State.decB_cases_of_unverified s.rxbuf hverify
    · rw [State.stepDecode_of_decB_raised hvariant h]; exact .inr rfl
    · rw [State.stepDecode_of_decB hvariant h]; exact .inl (State.onDecoded_fault (hkept.trans hfault))

/-- Settles O60: with RX_VERIFY the decoder of either variant raises the mismatch, without it neither does. -/
theorem checksumMismatchEndsTheRead : Obligations.ChecksumMismatchEndsTheRead := by
  intro s hseq hbusy finfo k sumA sumB
  have hfinfo : s.finfoNow = finfo := State.finfoNow_of_decode hbusy hseq
  have hsumA : sum8 (slice s.rxbuf 2 19) = sumA := sum8_eq_ofNat_sum _
  have hsumB : sum8 (slice k 2 18) = sumB := sum8_eq_ofNat_sum _
  rw [State.advance_of_decode hseq, ← hfinfo]
  refine ⟨fun hvariant hverify hlen hck => ?variantA, fun hvariant hverify hmem hlen hck => ?variantB,
    State.stepDecode_fault_of_unverified⟩
  case variantA =>
    rw [← hsumA] at hck ⊢
    exact State.stepDecode_of_decA_raised hvariant (State.decA_of_mismatch hverify hlen hck)
  case variantB =>
    rw [← hsumB] at hck ⊢
    have hraised := State.decBAt_of_mismatch (s := markerFound s.rxbuf s) hverify hlen hck
    exact State.stepDecode_of_decB_raised hvariant ((State.decB_of_mem s hmem).trans hraised)

/-! ### FINFO bit 1 and the trace (60_exceptions.md R290; log 10) -/

theorem mem_sentFrames {f : List Byte} {a : SendAnswer} {l : List Output} (h : .sent f a ∈ l) : f ∈ sentFrames l := by
  induction l with
  | nil => cases h
  | cons o l ih =>
    rcases List.mem_cons.mp h with rfl | htail
    · exact List.mem_cons_self
    · cases o with
      | sent f' a' => exact List.mem_cons_of_mem f' (ih htail)
      | _ => exact ih htail

/-- From `s` to `t` bit 1 is set exactly when it was set or a frame put out between them was answered Ok. -/
def TracksOk (s t : State) : Prop :=
  ∃ new, t.outs = s.outs ++ new ∧
    (t.sendReturnedOk = true ↔ s.sendReturnedOk = true ∨ ∃ f, Output.sent f .ok ∈ new)

theorem TracksOk.trans {s t u : State} (h : TracksOk s t) (h' : TracksOk t u) : TracksOk s u := by
  obtain ⟨new, houts, hbit⟩ := h
  obtain ⟨new', houts', hbit'⟩ := h'
  refine ⟨new ++ new', by rw [houts', houts, List.append_assoc], ?_⟩
  simp only [hbit', hbit, List.mem_append, exists_or, or_assoc]

/-- Where no frame is handed over, bit 1 must stay. -/
theorem TracksOk.of_no_frame {s t : State} (h : Sends [] s t) (hbit : t.sendReturnedOk = s.sendReturnedOk) :
    TracksOk s t := by
  obtain ⟨new, houts, hnone⟩ := h
  have hno : ¬∃ f, Output.sent f .ok ∈ new := fun ⟨_, hf⟩ => absurd (hnone ▸ mem_sentFrames hf) List.not_mem_nil
  exact ⟨new, houts, by rw [hbit, or_iff_left hno]⟩

theorem TracksOk.refl (s : State) : TracksOk s s := .of_no_frame (Sends.of_outs_eq rfl) rfl

/-- A response leaves a transaction in flight only for DECODE or the second exchange. -/
theorem State.onResponse_of_inFlight {s : State} (h : s.onResponse.busy = true) :
    s.busy = true ∧ s.onResponse.sendReturnedOk = true := by
  rcases State.onResponse_cases s with ⟨hb, -, e⟩ | ⟨hb, -, -, e⟩ | ⟨-, -, -, e⟩ | ⟨hb, e⟩ <;> rw [e] at h ⊢
  · exact ⟨hb, State.sendReturnedOk_of_decode rfl⟩
  · exact ⟨hb, State.sendReturnedOk_of_second rfl⟩
  · cases h
  · exact absurd (hb.symm.trans h) Bool.false_ne_true

theorem State.stepWait_of_inFlight {s : State} (hseq : s.seq = .wait) (h : s.stepWait.busy = true) :
    s.busy = true ∧ s.stepWait.sendReturnedOk = true := by
  rcases State.stepWait_cases s with ⟨x, xs, -, e⟩ | ⟨-, e⟩ | ⟨-, ⟨-, e⟩ | ⟨-, -, e⟩ | ⟨-, -, e⟩⟩ <;> rw [e] at h ⊢
  · simpa using State.onResponse_of_inFlight h
  · cases h
  · cases h
  · cases h
  · exact ⟨by simpa using h, State.sendReturnedOk_of_wait (by simpa using hseq)⟩

/-- DECODE leaves a transaction in flight only for the second exchange. -/
theorem State.stepDecode_of_inFlight {s : State} (h : s.stepDecode.busy = true) :
    s.busy = true ∧ s.stepDecode.sendReturnedOk = true := by
  obtain ⟨st, e, a, ⟨c, hd⟩ | ⟨g, hd⟩⟩ := State.stepDecode_cases s <;> rw [hd] at h ⊢
  · cases h
  · rcases State.onDecoded_cases { s with start := st, escp := e, acc := a, stg := g } with ⟨-, hn⟩ | ⟨-, hn⟩ <;>
      rw [hn] at h ⊢
    · exact ⟨h, State.sendReturnedOk_of_second rfl⟩
    · cases h

theorem State.stepSend_of_inFlight {s : State} (h : s.stepSend.busy = true) : s.busy = true ∧ TracksOk s s.stepSend := by
  rcases State.stepSend_cases s with ⟨-, e⟩ | ⟨-, e⟩ <;> rw [e] at h ⊢
  · refine ⟨by simpa using h, [.sent s.txbuf .ok], by simp, ?_⟩
    exact iff_of_true (State.sendReturnedOk_of_wait rfl) (.inr ⟨s.txbuf, List.mem_singleton_self _⟩)
  · cases h

/-- The sequencer begins no transaction, and while it leaves one in flight bit 1 follows the trace. -/
theorem State.advance_of_inFlight {s : State} (h : s.advance.busy = true) : s.busy = true ∧ TracksOk s s.advance := by
  cases hseq : s.seq with
  | idle =>
    rw [State.advance_of_idle hseq] at h ⊢
    exact ⟨h, .refl s⟩
  | build =>
    rw [State.advance_of_build hseq, State.stepBuild_eq] at h ⊢
    refine ⟨h, .of_no_frame (Sends.of_outs_eq rfl) ?_⟩
    rw [State.sendReturnedOk_of_build_or_send (.inr rfl), State.sendReturnedOk_of_build_or_send (.inl hseq)]
  | send =>
    rw [State.advance_of_send hseq] at h ⊢
    exact State.stepSend_of_inFlight h
  | wait =>
    rw [State.advance_of_wait hseq] at h ⊢
    obtain ⟨hbusy, hbit⟩ := State.stepWait_of_inFlight hseq h
    exact ⟨hbusy, .of_no_frame s.stepWait_sends (hbit.trans (State.sendReturnedOk_of_wait hseq).symm)⟩
  | decode =>
    rw [State.advance_of_decode hseq] at h ⊢
    obtain ⟨hbusy, hbit⟩ := State.stepDecode_of_inFlight h
    exact ⟨hbusy, .of_no_frame s.stepDecode_sends (hbit.trans (State.sendReturnedOk_of_decode hseq).symm)⟩

/-! ### How a transaction begins -/

theorem DatapathThenFault.busy {s t : State} (h : DatapathThenFault s t) (hbusy : t.busy = true) : s.busy = true := by
  rcases h with d | ⟨u, c, -, rfl⟩
  · have hkept : t.busy = s.busy := (congrArg State.busy d.rest :)
    exact hkept.symm.trans hbusy
  · cases hbusy

/-- An internal operation begins no transaction. -/
theorem exec_internal_busy {i : Instr} {s t : State} (hi : isHostCommand i = false) (h : exec i s = .next t)
    (hbusy : t.busy = true) : s.busy = true := by
  rcases exec_internal_cases i s t hi h with hd | rfl
  · exact hd.busy hbusy
  · obtain ⟨hb, -⟩ := State.stepWait_of_inFlight (s := { s with tries := 0, seq := .wait }) rfl hbusy
    exact hb

theorem State.writeOperand_busy (n v : Nat) (s : State) : (s.writeOperand n v).busy = s.busy := by
  unfold State.writeOperand
  split <;> rfl

/-- A transaction begins by the acceptance of a command for a known register, and in no other way. -/
theorem StepEffect.begins {s t : State} (h : StepEffect s t) (hidle : s.busy = false) (hbusy : t.busy = true) :
    ∃ c e, t = begun c e s := by
  have hnot : s.busy ≠ true := by simp [hidle]
  rcases h with rfl | ⟨c, -, rfl⟩ | ⟨c, rfl⟩ | rfl | ⟨n, v, rfl⟩ | rfl | ⟨-, n, v, rfl⟩ | ⟨-, i, hi, h⟩
  · exact absurd (State.advance_of_inFlight hbusy).1 hnot
  · rcases State.registerCommand_cases c s with ⟨hb, -⟩ | ⟨-, -, e⟩ | ⟨-, -, -, e⟩ | ⟨e, -, -, -, h⟩
    · exact absurd hb hnot
    · rw [e] at hbusy; cases hbusy
    · rw [e] at hbusy; cases hbusy
    · exact ⟨c, e, h⟩
  · rw [State.illegalCommand_of_idle c hidle] at hbusy; cases hbusy
  · exact absurd hbusy hnot
  · exact absurd hbusy hnot
  · exact absurd hbusy hnot
  · exact absurd ((State.writeOperand_busy n v s).symm.trans hbusy) hnot
  · exact absurd (exec_internal_busy hi h hbusy) hnot

/-- A step that leaves a transaction in flight takes no reset. -/
theorem step_effect_of_inFlight {s t : State} (h : step s = .next t) (hbusy : t.busy = true) :
    StepEffect { s with inputs := s.inputs.tail } t := by
  cases hreset : resetPresented s with
  | false => exact step_effect s t h hreset
  | true => rw [step_reset s t h hreset] at hbusy; cases hbusy

/-! ### A step and a run within a transaction -/

theorem step_tracksOk {s t : State} (hbusy : s.busy = true) (h : step s = .next t) (hbusy' : t.busy = true) :
    TracksOk s t := by
  rcases (step_effect_of_inFlight h hbusy').of_busy hbusy with rfl | ⟨new, rfl, hnew⟩
  · exact (State.advance_of_inFlight hbusy').2
  · exact .of_no_frame ⟨new, rfl, hnew⟩ rfl

theorem State.onResponse_inputs (s : State) : s.onResponse.inputs = s.inputs := by
  rcases State.onResponse_cases s with ⟨-, -, h⟩ | ⟨-, -, -, h⟩ | ⟨-, -, -, h⟩ | ⟨-, h⟩ <;> rw [h] <;> rfl

theorem State.stepWait_inputs (s : State) : s.stepWait.inputs = s.inputs := by
  have hreceive : (s.afterReceive s.cfg.rxCap).inputs = s.inputs := by simp
  rcases State.stepWait_cases s with ⟨x, xs, -, h⟩ | ⟨-, h⟩ | ⟨-, ⟨-, h⟩ | ⟨-, -, h⟩ | ⟨-, -, h⟩⟩ <;> rw [h]
  · exact (State.onResponse_inputs _).trans hreceive
  all_goals exact hreceive

theorem State.stepDecode_inputs (s : State) : s.stepDecode.inputs = s.inputs := by
  obtain ⟨st, e, a, ⟨c, h⟩ | ⟨g, h⟩⟩ := State.stepDecode_cases s <;> rw [h]
  · rfl
  · rcases State.onDecoded_cases { s with start := st, escp := e, acc := a, stg := g } with ⟨-, h⟩ | ⟨-, h⟩ <;>
      rw [h] <;> rfl

/-- The sequencer takes no input. -/
theorem State.advance_inputs (s : State) : s.advance.inputs = s.inputs := by
  cases hseq : s.seq with
  | idle => rw [State.advance_of_idle hseq]
  | build => rw [State.advance_of_build hseq, State.stepBuild_eq]
  | send =>
    rw [State.advance_of_send hseq]
    rcases State.stepSend_cases s with ⟨-, h⟩ | ⟨-, h⟩ <;> rw [h] <;> simp
  | wait => rw [State.advance_of_wait hseq, State.stepWait_inputs]
  | decode => rw [State.advance_of_decode hseq, State.stepDecode_inputs]

/-- An undisturbed run that ends with a transaction in flight has had it in flight from the start. -/
theorem runsTo_of_inFlight {k : Nat} {s t : State} (hin : s.inputs = []) (hrun : runsTo k s t) (hbusy : t.busy = true) :
    s.busy = true ∧ TracksOk s t := by
  induction k generalizing s with
  | zero =>
    obtain rfl : s = t := Host.Outcome.next.inj hrun
    exact ⟨hbusy, .refl s⟩
  | succ k ih =>
    obtain ⟨u, hstep, hrest⟩ := (runsTo_succ k s t).mp hrun
    obtain rfl : s.advance = u := Host.Outcome.next.inj ((step_of_no_input hin).symm.trans hstep)
    obtain ⟨hbusy', hlater⟩ := ih (s.advance_inputs.trans hin) hrest
    obtain ⟨hb, hfirst⟩ := State.advance_of_inFlight hbusy'
    exact ⟨hb, hfirst.trans hlater⟩

/-- Settles O57: bit 1 is clear at the first BUILD, and follows the trace along each step and each run from there. -/
theorem phaseTellsWhetherAFrameWasSent : Obligations.PhaseTellsWhetherAFrameWasSent := by
  refine ⟨fun s t hidle hstep hbusy => ?begins, fun s t hbusy hstep hbusy' => step_tracksOk hbusy hstep hbusy',
    fun k s t hin hseq hsb hbusy hrun hbusy' => ?run⟩
  case begins =>
    obtain ⟨c, e, rfl⟩ := (step_effect_of_inFlight hstep hbusy).begins hidle hbusy
    rfl
  case run =>
    obtain ⟨-, new, houts, hbit⟩ := runsTo_of_inFlight hin hrun hbusy'
    have hclear : s.sendReturnedOk = false := by rw [State.sendReturnedOk_of_build_or_send (.inl hseq), hsb]; rfl
    rw [hclear] at hbit
    exact ⟨new, houts, hbit.trans (or_iff_right Bool.false_ne_true)⟩

end Sys2Proof.Machine
end

section
/-! PROOFS. The statement of 70_reset_and_hazards.md on the trace: no input, RESET included, takes an output back. -/

namespace Sys2Proof.Machine

/-- Whatever input is taken, the trace grows by the outputs of some frames handed over and of others. -/
theorem exists_sends_of_take {i : Input} {s t : State} (h : take i s = .next t) : ∃ fs, Sends fs s t := by
  rcases take_sends h with hnone | ⟨-, hphase, -⟩ | ⟨-, f, -, -, -, hdirect⟩
  · exact ⟨[], hnone⟩
  · exact ⟨[s.txbuf], hphase⟩
  · exact ⟨[f], hdirect⟩

/-- Settles O56: the sequencer's transition and every input taken put out after what stands, and RESET puts out nothing. -/
theorem outputsAreOnlyAppended : Obligations.OutputsAreOnlyAppended := by
  intro s t h
  rcases step_cases s with ⟨-, e⟩ | ⟨i, rest, -, e⟩ <;> rw [e] at h
  case inl =>
    obtain ⟨fs, new, houts, -⟩ := exists_sends_of_take (i := .idle) h
    exact ⟨new, houts⟩
  case inr =>
    obtain ⟨fs, new, houts, -⟩ := exists_sends_of_take h
    exact ⟨new, houts⟩

end Sys2Proof.Machine
end
